-- ==== Sys2Proof/Word.lean ====
section
/-! DEFINITION. The word types of the controller (00_scope.md R11, R16, R18): bytes of frames and
memory, 16-bit halves of management data and station addresses, 32-bit registers, 64-bit descriptor
words and guest addresses. Every value is unsigned. -/
namespace Sys2Proof

/-- One byte of a frame or of guest memory. -/
abbrev Byte := BitVec 8

/-- A 16-bit value: management data, a checksum, one third of a station address. -/
abbrev Half := BitVec 16

/-- A register word (R16). -/
abbrev Word := BitVec 32

/-- A descriptor word (R104). -/
abbrev DWord := BitVec 64

/-- A guest physical address; arithmetic wraps modulo 2^64 (R18). -/
abbrev Addr := BitVec 64

end Sys2Proof
end

