-- ==== Sys2Proof/Config.lean ====
section
/-! DEFINITION. What an implementation fixes: the names of the register map (10_state.md table T1,
table T2) and the configuration record `Cfg` of 00_scope.md R9. The record is a type only; its default
values stand in `Sys2Proof.Machine.Defaults`, its well-formedness (R10) in `Sys2Proof.WellFormed`.
The two function parameters of table P3 (decisions D17, D19) are named by plain data: the record says which
function an implementation has, and the functions other than the default are uninterpreted constants.
The specification leaves no instruction result undefined, so there is no free value. -/
namespace Sys2Proof

/-- The eight banks of the register space (R31, table T1). -/
inductive BankName where
  | greg | txdma | wol | rxdma | mac | mif | pcs0 | pcs1
  deriving DecidableEq, Repr

/-- The named registers (R33, table T2), in the order of the table. -/
inductive Reg where
  | gregSebstate | gregStat | gregImask | gregIack | gregStat2 | gregPciestat | gregPciemask
  | gregSwrst | txdmaKick | txdmaCfg | txdmaDblow | txdmaDbhi | txdmaPcnt | txdmaSmachine
  | txdmaDplow | txdmaDphi | txdmaTxdone | txdmaFtag | txdmaFsz | rxdmaCfg | rxdmaDblow
  | rxdmaDbhi | rxdmaPcnt | rxdmaSmachine | rxdmaDplow | rxdmaDphi | rxdmaKick | rxdmaDone
  | rxdmaFtag | rxdmaFsz | macTxrst | macRxrst | macTxstat | macRxstat | macCstat | macTxmask
  | macRxmask | macMcmask | macTxcfg | macRxcfg | macXifcfg | macMinfsz | macMaxfsz | macAddr0
  | macAddr1 | macAddr2 | macAddr3 | macAddr4 | macAddr5 | macHash0 | macHash1 | macHash2
  | macHash3 | macHash4 | macHash5 | macHash6 | macHash7 | macHash8 | macHash9 | macHash10
  | macHash11 | macHash12 | macHash13 | macHash14 | macHash15 | macPatmps | macSmachine
  | mifFrame | mifCfg | mifStatus | mifSmachine | pcsMiistat | pcsIstat | pcsSstate
  deriving DecidableEq, Repr

/-- How many named registers there are. -/
abbrev Reg.count : Nat := 74

/-- The place of a register in table T2, counted from 0. -/
def Reg.idx (r : Reg) : Fin Reg.count := ⟨r.ctorIdx, by cases r <;> decide⟩

/-- The named registers in the order of table T2. -/
def Reg.all : List Reg := [
  .gregSebstate, .gregStat, .gregImask, .gregIack, .gregStat2, .gregPciestat, .gregPciemask,
  .gregSwrst, .txdmaKick, .txdmaCfg, .txdmaDblow, .txdmaDbhi, .txdmaPcnt, .txdmaSmachine,
  .txdmaDplow, .txdmaDphi, .txdmaTxdone, .txdmaFtag, .txdmaFsz, .rxdmaCfg, .rxdmaDblow,
  .rxdmaDbhi, .rxdmaPcnt, .rxdmaSmachine, .rxdmaDplow, .rxdmaDphi, .rxdmaKick, .rxdmaDone,
  .rxdmaFtag, .rxdmaFsz, .macTxrst, .macRxrst, .macTxstat, .macRxstat, .macCstat, .macTxmask,
  .macRxmask, .macMcmask, .macTxcfg, .macRxcfg, .macXifcfg, .macMinfsz, .macMaxfsz, .macAddr0,
  .macAddr1, .macAddr2, .macAddr3, .macAddr4, .macAddr5, .macHash0, .macHash1, .macHash2,
  .macHash3, .macHash4, .macHash5, .macHash6, .macHash7, .macHash8, .macHash9, .macHash10,
  .macHash11, .macHash12, .macHash13, .macHash14, .macHash15, .macPatmps, .macSmachine,
  .mifFrame, .mifCfg, .mifStatus, .mifSmachine, .pcsMiistat, .pcsIstat, .pcsSstate]

theorem Reg.length_all : Reg.all.length = Reg.count := rfl

/-- A vector with one entry per named register, in the order of table T2. -/
def Reg.table {α : Type} (f : Reg → α) : Vector α Reg.count :=
  ⟨(Reg.all.map f).toArray, by rw [List.size_toArray, List.length_map, Reg.length_all]⟩

/-- One bank: `count` words from byte offset `base` (R31). -/
structure Bank where
  name  : BankName
  base  : Nat
  count : Nat
  deriving DecidableEq, Repr

/-- The byte order of descriptor words in guest memory (R81, `DESC_ORDER`). -/
inductive ByteOrder where
  | little | big
  deriving DecidableEq, Repr

/-- Six address bytes in wire order (R53, R78). -/
structure MacAddr where
  b0 : Byte
  b1 : Byte
  b2 : Byte
  b3 : Byte
  b4 : Byte
  b5 : Byte
  deriving DecidableEq, Repr

/-- One entry of `PHY_TABLE` (R216): the value of transceiver register `reg` with the link down and
with the link up. -/
structure PhyEntry where
  reg      : Nat
  linkDown : Half
  linkUp   : Half
  deriving DecidableEq, Repr

/-- Which checksum function an implementation has (table P3, `csum16`; decision D17). -/
inductive ChecksumFn where
  /-- `csum16` of R19. -/
  | internet
  /-- Another function, about which nothing is known but its number. -/
  | other (n : Nat)
  deriving DecidableEq, Repr

/-- Which address-check function an implementation has (table P3, `crc32le`; decision D19). -/
inductive AddressCheckFn where
  /-- `crc32le` of R20. -/
  | crc32le
  /-- Another function, about which nothing is known but its number. -/
  | other (n : Nat)
  deriving DecidableEq, Repr

/-- The checksum functions other than `csum16`: any functions (log entry 13). -/
opaque Config.otherChecksum : Nat → List Byte → Half

/-- The address-check functions other than `crc32le`: any functions (log entry 13). -/
opaque Config.otherAddressCheck : Nat → List Byte → Word

/-- The configuration record (R9, tables P2 and P3). A field named after a mask is that mask. -/
structure Cfg where
  /-- `MACADDR`. -/
  macAddr : MacAddr
  /-- `PHY_ADDR`; its type is the range of R10 (92 D41). -/
  phyAddr : BitVec 5
  /-- `SPACE_BYTES`. -/
  spaceBytes : Nat
  /-- `BANKS`, in the order the decoder tries them (R102). -/
  banks : List Bank
  /-- The byte offset of each named register, in the order of `Reg.all`. -/
  offsets : Vector Nat Reg.count
  /-- `RINGSZ_BITS` (table P1; 93 U14). -/
  ringszBits : Nat
  statTxIntme : Word
  statTxAll : Word
  statTxDone : Word
  statRxDone : Word
  statRxNoBuf : Word
  statRxTagErr : Word
  statTxMac : Word
  statRxMac : Word
  statMac : Word
  /-- `STAT_TXNR_MASK`. -/
  statTxnr : Word
  statTxnrShift : Nat
  /-- `STAT_LATCH` (R42). -/
  statLatch : Word
  /-- `RO_SET`: the named registers whose bus write is discarded (R141; decision D7). -/
  roSet : List Reg
  /-- `CLEAR_ON_READ`: the named registers that a bus read clears (R164 to R166; decision D9). -/
  clearOnRead : List Reg
  /-- `WRITE_MASKS` of MIF_CFG: the bits a write clears, the bits a write sets (R178). -/
  mifCfgClear : Word
  mifCfgSet : Word
  /-- `WRITE_MASKS` of GREG_PCIEMASK (R153) and of MAC_MINFSZ (R172). -/
  pcieMaskAnd : Word
  minFszAnd : Word
  /-- `CSTAT_EXCL` (R45). -/
  cstatExcl : Word
  /-- `DESC_ORDER` (R81). -/
  descOrder : ByteOrder
  txdBufsz : DWord
  txdCstart : DWord
  txdCoff : DWord
  txdCenab : DWord
  txdEof : DWord
  txdSof : DWord
  txdIntme : DWord
  rxdCsum : DWord
  rxdLen : DWord
  rxdHashval : DWord
  rxdHpass : DWord
  rxdAltmac : DWord
  dmacfgEnable : Word
  dmacfgRingszShift : Nat
  rxcfgFboff : Word
  rxcfgCsumoff : Word
  macTxcfgEnab : Word
  macRxcfgEnab : Word
  macRxcfgProm : Word
  macRxcfgPgrp : Word
  macRxcfgHfe : Word
  macXifcfgLbck : Word
  /-- `MAXFSZ_MASK` (R52). -/
  maxFszMask : Word
  /-- `csum16` (R19). -/
  checksum : ChecksumFn
  /-- `crc32le` (R20). -/
  addressCheck : AddressCheckFn
  /-- `HASH_GATED` (R275). -/
  hashGated : Bool
  /-- `RX_BUF_ALIGN_MASK` (R280). -/
  rxBufAlign : DWord
  /-- `RX_MIN_LEN` (R266). -/
  rxMinLen : Nat
  /-- `TRAILER` (R266). -/
  trailer : Nat
  /-- `TX_ACC_MAX` (R238). -/
  txAccMax : Nat
  mifSt : Word
  mifOp : Word
  mifPhyad : Word
  mifRegad : Word
  mifTamsb : Word
  /-- `MIF_TALSB` = `MIF_ACK`, the acknowledgement (R112). -/
  mifAck : Word
  mifData : Word
  /-- `MIF_ST_VALID`, the valid start-of-frame tag (R112). -/
  mifStValid : Word
  /-- `PHY_TABLE` (R216); an index it does not list reads 0. -/
  phyTable : List PhyEntry
  resetTxdmaFsz : Word
  resetTxdmaCfg : Word
  resetRxdmaFsz : Word
  resetRxdmaCfg : Word
  resetImask : Word
  resetMifCfg : Word
  swrstTxrst : Word
  swrstRxrst : Word
  swrstRstout : Word
  deriving DecidableEq, Repr

end Sys2Proof
end

