-- ==== Sys2Proof/Machine/Defaults.lean ====
section
/-! DEFINITION. The constants the source fixes (00_scope.md table P1) and the default configuration
(tables P2 and P3; log entries 5 and 6). Every number of table P3 is the specification's own default,
most of them from general knowledge of the controller class (93_implementation_defined.md section 2). -/
namespace Sys2Proof.Machine

/-- `ACCESS_BYTES`: the width of a bus access (R86). -/
def accessBytes : Nat := 4

/-- `DESC_BYTES`: the size of a descriptor (R104). -/
def descBytes : Nat := 16

/-- `RING_MIN_SLOTS` (R17). -/
def ringMinSlots : Nat := 32

/-- `PAD_FLOOR` (R267). -/
def padFloor : Nat := 60

/-- `MACADDR_BYTES` (R10). -/
def macAddrBytes : Nat := 6

/-- `UNMAPPED_READ` (R143); also the sentinel of an invalid management frame (R213, R214). -/
def allOnes : Word := 0xFFFFFFFF#32

/-- `MIF_OP_WRITE` (R112). -/
def mifOpWrite : Word := 1#32

/-- `MIF_OP_READ` (R112). -/
def mifOpRead : Word := 2#32

/-- The bank each named register lies in (10_state.md table T2). -/
def bankOf : Reg → BankName
  | .gregSebstate => .greg
  | .gregStat => .greg
  | .gregImask => .greg
  | .gregIack => .greg
  | .gregStat2 => .greg
  | .gregPciestat => .greg
  | .gregPciemask => .greg
  | .gregSwrst => .greg
  | .txdmaKick => .txdma
  | .txdmaCfg => .txdma
  | .txdmaDblow => .txdma
  | .txdmaDbhi => .txdma
  | .txdmaPcnt => .txdma
  | .txdmaSmachine => .txdma
  | .txdmaDplow => .txdma
  | .txdmaDphi => .txdma
  | .txdmaTxdone => .txdma
  | .txdmaFtag => .txdma
  | .txdmaFsz => .txdma
  | .rxdmaCfg => .rxdma
  | .rxdmaDblow => .rxdma
  | .rxdmaDbhi => .rxdma
  | .rxdmaPcnt => .rxdma
  | .rxdmaSmachine => .rxdma
  | .rxdmaDplow => .rxdma
  | .rxdmaDphi => .rxdma
  | .rxdmaKick => .rxdma
  | .rxdmaDone => .rxdma
  | .rxdmaFtag => .rxdma
  | .rxdmaFsz => .rxdma
  | .macTxrst => .mac
  | .macRxrst => .mac
  | .macTxstat => .mac
  | .macRxstat => .mac
  | .macCstat => .mac
  | .macTxmask => .mac
  | .macRxmask => .mac
  | .macMcmask => .mac
  | .macTxcfg => .mac
  | .macRxcfg => .mac
  | .macXifcfg => .mac
  | .macMinfsz => .mac
  | .macMaxfsz => .mac
  | .macAddr0 => .mac
  | .macAddr1 => .mac
  | .macAddr2 => .mac
  | .macAddr3 => .mac
  | .macAddr4 => .mac
  | .macAddr5 => .mac
  | .macHash0 => .mac
  | .macHash1 => .mac
  | .macHash2 => .mac
  | .macHash3 => .mac
  | .macHash4 => .mac
  | .macHash5 => .mac
  | .macHash6 => .mac
  | .macHash7 => .mac
  | .macHash8 => .mac
  | .macHash9 => .mac
  | .macHash10 => .mac
  | .macHash11 => .mac
  | .macHash12 => .mac
  | .macHash13 => .mac
  | .macHash14 => .mac
  | .macHash15 => .mac
  | .macPatmps => .mac
  | .macSmachine => .mac
  | .mifFrame => .mif
  | .mifCfg => .mif
  | .mifStatus => .mif
  | .mifSmachine => .mif
  | .pcsMiistat => .pcs0
  | .pcsIstat => .pcs0
  | .pcsSstate => .pcs1

/-- `BANKS` (10_state.md table T1). -/
def defaultBanks : List Bank := [
  ⟨.greg, 0x0000, 2048⟩, ⟨.txdma, 0x2000, 1024⟩, ⟨.wol, 0x3000, 5⟩, ⟨.rxdma, 0x4000, 2048⟩,
  ⟨.mac, 0x6000, 128⟩, ⟨.mif, 0x6200, 8⟩, ⟨.pcs0, 0x9000, 8⟩, ⟨.pcs1, 0x9050, 4⟩]

/-- The default byte offset of each named register (10_state.md table T2). -/
def defaultOffset : Reg → Nat
  | .gregSebstate => 0x0000
  | .gregStat => 0x000C
  | .gregImask => 0x0010
  | .gregIack => 0x0014
  | .gregStat2 => 0x001C
  | .gregPciestat => 0x1000
  | .gregPciemask => 0x1004
  | .gregSwrst => 0x1010
  | .txdmaKick => 0x2000
  | .txdmaCfg => 0x2004
  | .txdmaDblow => 0x2008
  | .txdmaDbhi => 0x200C
  | .txdmaPcnt => 0x2024
  | .txdmaSmachine => 0x2028
  | .txdmaDplow => 0x2030
  | .txdmaDphi => 0x2034
  | .txdmaTxdone => 0x2100
  | .txdmaFtag => 0x2108
  | .txdmaFsz => 0x2118
  | .rxdmaCfg => 0x4000
  | .rxdmaDblow => 0x4004
  | .rxdmaDbhi => 0x4008
  | .rxdmaPcnt => 0x4018
  | .rxdmaSmachine => 0x401C
  | .rxdmaDplow => 0x4024
  | .rxdmaDphi => 0x4028
  | .rxdmaKick => 0x4100
  | .rxdmaDone => 0x4104
  | .rxdmaFtag => 0x4110
  | .rxdmaFsz => 0x4120
  | .macTxrst => 0x6000
  | .macRxrst => 0x6004
  | .macTxstat => 0x6010
  | .macRxstat => 0x6014
  | .macCstat => 0x6018
  | .macTxmask => 0x6020
  | .macRxmask => 0x6024
  | .macMcmask => 0x6028
  | .macTxcfg => 0x6030
  | .macRxcfg => 0x6034
  | .macXifcfg => 0x603C
  | .macMinfsz => 0x6050
  | .macMaxfsz => 0x6054
  | .macAddr0 => 0x6080
  | .macAddr1 => 0x6084
  | .macAddr2 => 0x6088
  | .macAddr3 => 0x608C
  | .macAddr4 => 0x6090
  | .macAddr5 => 0x6094
  | .macHash0 => 0x60C0
  | .macHash1 => 0x60C4
  | .macHash2 => 0x60C8
  | .macHash3 => 0x60CC
  | .macHash4 => 0x60D0
  | .macHash5 => 0x60D4
  | .macHash6 => 0x60D8
  | .macHash7 => 0x60DC
  | .macHash8 => 0x60E0
  | .macHash9 => 0x60E4
  | .macHash10 => 0x60E8
  | .macHash11 => 0x60EC
  | .macHash12 => 0x60F0
  | .macHash13 => 0x60F4
  | .macHash14 => 0x60F8
  | .macHash15 => 0x60FC
  | .macPatmps => 0x6114
  | .macSmachine => 0x6134
  | .mifFrame => 0x620C
  | .mifCfg => 0x6210
  | .mifStatus => 0x6218
  | .mifSmachine => 0x621C
  | .pcsMiistat => 0x9004
  | .pcsIstat => 0x9018
  | .pcsSstate => 0x905C

/-- The default of `RO_SET`: the registers whose bus write table T2 says is discarded (R35, R141; decision
D7). -/
def readOnlyRegs : List Reg := [
  .gregSebstate, .gregStat, .gregStat2, .gregPciestat, .txdmaPcnt, .txdmaSmachine, .txdmaDplow,
  .txdmaDphi, .txdmaTxdone, .txdmaFtag, .txdmaFsz, .rxdmaPcnt, .rxdmaSmachine, .rxdmaDplow,
  .rxdmaDphi, .rxdmaDone, .rxdmaFtag, .rxdmaFsz, .macTxrst, .macRxrst, .macTxstat, .macRxstat,
  .macCstat, .macPatmps, .macSmachine, .mifStatus, .mifSmachine, .pcsMiistat, .pcsIstat,
  .pcsSstate]

/-- The default of `CLEAR_ON_READ` (R164 to R166; decision D9). -/
def clearOnReadRegs : List Reg := [.macTxstat, .macRxstat, .macCstat]

/-- `PHY_TABLE` (R216). -/
def defaultPhyTable : List PhyEntry := [
  ⟨0, 0x0000#16, 0x0000#16⟩,
  ⟨1, 0x4008#16, 0x402C#16⟩,
  ⟨2, 0x0040#16, 0x0040#16⟩,
  ⟨3, 0x6210#16, 0x6210#16⟩,
  ⟨4, 0x0100#16, 0x0100#16⟩,
  ⟨5, 0x0100#16, 0x0100#16⟩,
  ⟨24, 0x0003#16, 0x0003#16⟩]

/-- The default configuration (R9). `MACADDR` and `PHY_ADDR` have no default in the specification:
these are the values its test vectors use (95_test_vectors.md; log entry 5). -/
def defaultCfg : Cfg where
  macAddr := ⟨0x52#8, 0x54#8, 0x00#8, 0x12#8, 0x34#8, 0x56#8⟩
  phyAddr := 0#5
  spaceBytes := 0x200000
  banks := defaultBanks
  offsets := Reg.table defaultOffset
  ringszBits := 3
  statTxIntme := 0x00000001#32
  statTxAll := 0x00000002#32
  statTxDone := 0x00000004#32
  statRxDone := 0x00000010#32
  statRxNoBuf := 0x00000020#32
  statRxTagErr := 0x00000040#32
  statTxMac := 0x00004000#32
  statRxMac := 0x00008000#32
  statMac := 0x00010000#32
  statTxnr := 0xFFF80000#32
  statTxnrShift := 19
  statLatch := 0x00000077#32
  roSet := readOnlyRegs
  clearOnRead := clearOnReadRegs
  mifCfgClear := 0x200#32
  mifCfgSet := 0x100#32
  pcieMaskAnd := 0x7#32
  minFszAnd := 0x3FF#32
  cstatExcl := 0xFFFF0000#32
  descOrder := .little
  txdBufsz := 0x0000000000007FFF#64
  txdCstart := 0x00000000001F8000#64
  txdCoff := 0x000000001FE00000#64
  txdCenab := 0x0000000020000000#64
  txdEof := 0x0000000040000000#64
  txdSof := 0x0000000080000000#64
  txdIntme := 0x0000000100000000#64
  rxdCsum := 0x000000000000FFFF#64
  rxdLen := 0x000000007FFF0000#64
  rxdHashval := 0x0FFFF00000000000#64
  rxdHpass := 0x1000000000000000#64
  rxdAltmac := 0x2000000000000000#64
  dmacfgEnable := 0x1#32
  dmacfgRingszShift := 1
  rxcfgFboff := 0x1C00#32
  rxcfgCsumoff := 0xFE000#32
  macTxcfgEnab := 0x1#32
  macRxcfgEnab := 0x1#32
  macRxcfgProm := 0x8#32
  macRxcfgPgrp := 0x10#32
  macRxcfgHfe := 0x20#32
  macXifcfgLbck := 0x2#32
  maxFszMask := 0x7FFF#32
  checksum := .internet
  addressCheck := .crc32le
  hashGated := true
  rxBufAlign := 0x7#64
  rxMinLen := 6
  trailer := 4
  txAccMax := 9016
  mifSt := 0xC0000000#32
  mifOp := 0x30000000#32
  mifPhyad := 0x0F800000#32
  mifRegad := 0x007C0000#32
  mifTamsb := 0x00020000#32
  mifAck := 0x00010000#32
  mifData := 0x0000FFFF#32
  mifStValid := 1#32
  phyTable := defaultPhyTable
  resetTxdmaFsz := 0x90#32
  resetTxdmaCfg := 0x118010#32
  resetRxdmaFsz := 0x140#32
  resetRxdmaCfg := 0x1000010#32
  resetImask := 0x00000000#32
  resetMifCfg := 0x100#32
  swrstTxrst := 0x1#32
  swrstRxrst := 0x2#32
  swrstRstout := 0x4#32

end Sys2Proof.Machine
end

