-- ==== Sys2Proof/Machine/AddressMap.lean ====
section
/-! DEFINITION. The address map of the register space: decoding a byte offset (30_encoding.md R101 to
R103, 20_memory.md R84, R86). -/
namespace Sys2Proof.Machine

/-- The bank covers byte offset `a` (10_state.md table T1). -/
def bankCovers (b : Bank) (a : Nat) : Bool := b.base ≤ a && a < b.base + 4 * b.count

/-- `Decode(a)`: the bank of an offset and the index within it, `none` for an unmapped offset (R102). -/
def decodeOffset (cfg : Cfg) (a : Nat) : Option (BankName × Nat) :=
  (cfg.banks.find? fun b => bankCovers b a).map fun b => (b.name, (a - b.base) / 4)

/-- The byte offset of a named register. -/
def offsetOf (cfg : Cfg) (r : Reg) : Nat := cfg.offsets.get r.idx

/-- The named register at an offset (R102). -/
def regAt (cfg : Cfg) (a : Nat) : Option Reg := Reg.all.find? fun r => offsetOf cfg r == a

/-- What an offset selects (R103): a named register, a word of the WOL bank, another plain word, or
nothing. -/
inductive Place where
  | named (r : Reg)
  | wol
  | plain
  | unmapped
  deriving DecidableEq, Repr

/-- What the offset `a` selects (R103). -/
def placeOf (cfg : Cfg) (a : Nat) : Place :=
  match decodeOffset cfg a with
  | none => .unmapped
  | some (bank, _) =>
    match regAt cfg a with
    | some r => .named r
    | none => if bank = .wol then .wol else .plain

/-- The access reaches the block: four bytes wide, 4-byte aligned, inside the register space (R86,
93 U2, U3). -/
def busReaches (cfg : Cfg) (size a : Nat) : Bool :=
  size == accessBytes && a % accessBytes == 0 && a < cfg.spaceBytes

end Sys2Proof.Machine
end

