-- ==== Sys2Proof/Machine/Operands.lean ====
section
/-! DEFINITION. The operand forms and the functions of 00_scope.md sections 5 and 6: fields of a word
(R11), byte order (R80, R81), ring and slot arithmetic (R17, R18), the checksum (R19) and the address
check (R20), and the fields of descriptors and of configuration words the engines read (R106, R109). -/
namespace Sys2Proof.Machine

/-! ## Fields of a word (R11) -/

/-- The index of the lowest set bit of a mask; 0 for the empty mask. -/
def lowestSet {w : Nat} (m : BitVec w) : Nat :=
  ((List.range w).find? fun i => m.getLsbD i).getD 0

/-- `field(v, M)` (R11). -/
def field {w : Nat} (v m : BitVec w) : BitVec w := (v &&& m) >>> lowestSet m

/-- `put(M, f)` (R11). -/
def put {w : Nat} (m f : BitVec w) : BitVec w := (f <<< lowestSet m) &&& m

/-- `(v & M) != 0`: some bit of the mask is set. -/
def anySet {w : Nat} (v m : BitVec w) : Bool := v &&& m != 0#w

/-! ## Byte order (R13, R80, R81) -/

/-- The number whose least significant byte comes first. -/
def fromLE (w : Nat) : List Byte → BitVec w
  | [] => 0#w
  | b :: bs => (b.setWidth w) ||| (fromLE w bs <<< 8)

/-- The `n` low bytes of a number, least significant first. -/
def toLE {w : Nat} : Nat → BitVec w → List Byte
  | 0, _ => []
  | n + 1, v => v.setWidth 8 :: toLE n (v >>> 8)

/-- A descriptor word from its 8 bytes: `le64`, or its big-endian counterpart (R13, R81). -/
def wordOfBytes : ByteOrder → List Byte → DWord
  | .little, bs => fromLE 64 bs
  | .big, bs => fromLE 64 bs.reverse

/-- The 8 bytes of a descriptor word: `to_le64`, or its big-endian counterpart (R13, R81). -/
def bytesOfWord : ByteOrder → DWord → List Byte
  | .little, v => toLE 8 v
  | .big, v => (toLE 8 v).reverse

/-- `be16(v)`: high byte, low byte (R13). -/
def be16 (v : Half) : Byte × Byte := ((v >>> 8).setWidth 8, v.setWidth 8)

/-- `word0` of a descriptor: its bytes 0 to 7 (R104). -/
def descWord0 (o : ByteOrder) (raw : List Byte) : DWord := wordOfBytes o (raw.take 8)

/-- `word1` of a descriptor: its bytes 8 to 15, the buffer word (R104). -/
def descWord1 (o : ByteOrder) (raw : List Byte) : DWord := wordOfBytes o ((raw.drop 8).take 8)

/-- The 16 bytes of a descriptor (R104). -/
def descBytesOf (o : ByteOrder) (word0 word1 : DWord) : List Byte :=
  bytesOfWord o word0 ++ bytesOfWord o word1

/-! ## Rings and slots (R17, R18) -/

/-- `n(c)`: the ring-size exponent of a DMA configuration word (R17). -/
def ringExp (cfg : Cfg) (c : Word) : Nat :=
  ((c >>> cfg.dmacfgRingszShift) &&& BitVec.ofNat 32 (2 ^ cfg.ringszBits - 1)).toNat

/-- `ring_size(c)` (R17). -/
def ringSize (cfg : Cfg) (c : Word) : Nat := ringMinSlots * 2 ^ ringExp cfg c

/-- `ring_mask(c)` (R17). -/
def ringMask (cfg : Cfg) (c : Word) : Word := BitVec.ofNat 32 (ringSize cfg c - 1)

/-- One slot further on the ring (R17, R39). -/
def advance (mask c : Word) : Word := (c + 1#32) &&& mask

/-- The ring is full: `kick & mask = ((done & mask) + 1) & mask` (R17, conflict C1). -/
def ringFull (mask kick done : Word) : Bool := kick &&& mask == advance mask (done &&& mask)

/-- The 64-bit ring base of its high and low registers (R18). -/
def ringBase (hi lo : Word) : Addr := (hi.setWidth 64 <<< 32) ||| lo.setWidth 64

/-- The address of a slot (R18). -/
def slotAddr (base : Addr) (slot : Word) : Addr := base + slot.setWidth 64 * BitVec.ofNat 64 descBytes

/-! ## The checksum (R19) -/

/-- The sum of the bytes read as big-endian 16-bit words, an odd tail padded with zero. -/
def csumSum : List Byte → Nat
  | [] => 0
  | [a] => a.toNat * 256
  | a :: b :: rest => a.toNat * 256 + b.toNat + csumSum rest

/-- `while s >= 2^16: s <- (s & 0xFFFF) + (s >> 16)`, at most `fuel` times. -/
def csumFold : Nat → Nat → Nat
  | 0, s => s
  | fuel + 1, s => if s < 65536 then s else csumFold fuel (s % 65536 + s / 65536)

/-- `csum16` (R19). Each turn of the loop makes the sum smaller, so `s` turns suffice. -/
def csum16 (b : List Byte) : Half :=
  let s := csumSum b
  ~~~ BitVec.ofNat 16 (csumFold s s)

/-- The checksum function of the configuration (R9, R19; decision D17). -/
def checksum (cfg : Cfg) (b : List Byte) : Half :=
  match cfg.checksum with
  | .internet => csum16 b
  | .other n => Config.otherChecksum n b

/-! ## The address check (R20) -/

/-- One turn of the inner loop of `crc32le`, on bit `j` of byte `y`. -/
def crcBit (y : Byte) (c : Word) (j : Nat) : Word :=
  let t := (c ^^^ (y >>> j).setWidth 32) &&& 1#32
  let c' := c >>> 1
  if t = 1#32 then c' ^^^ 0xEDB88320#32 else c'

/-- The eight turns for one byte. -/
def crcByte (c : Word) (y : Byte) : Word := (List.range 8).foldl (crcBit y) c

/-- `crc32le` (R20). -/
def crc32le (b : List Byte) : Word := b.foldl crcByte 0xFFFFFFFF#32

/-- The address-check function of the configuration (R9, R20; decision D19). -/
def addressCheck (cfg : Cfg) (b : List Byte) : Word :=
  match cfg.addressCheck with
  | .crc32le => crc32le b
  | .other n => Config.otherAddressCheck n b

/-! ## Station addresses (R53) -/

/-- The six bytes of an address in wire order. -/
def macBytes (m : MacAddr) : List Byte := [m.b0, m.b1, m.b2, m.b3, m.b4, m.b5]

/-- The destination address of a frame: its first six bytes (R118). -/
def macOfBytes (f : List Byte) : MacAddr :=
  ⟨f.getD 0 0#8, f.getD 1 0#8, f.getD 2 0#8, f.getD 3 0#8, f.getD 4 0#8, f.getD 5 0#8⟩

/-- `(hi << 8) | lo` as a register word (R53). -/
def bytePair (hi lo : Byte) : Word := (hi.setWidth 32 <<< 8) ||| lo.setWidth 32

/-- The three register words of an address, lowest-numbered register first (R53). -/
def macWord0 (m : MacAddr) : Word := bytePair m.b4 m.b5
def macWord1 (m : MacAddr) : Word := bytePair m.b2 m.b3
def macWord2 (m : MacAddr) : Word := bytePair m.b0 m.b1

/-! ## Fields of a transmit control word (R106) -/

/-- `TXD_BUFSZ` as a length. -/
def txdLen (cfg : Cfg) (ctl : DWord) : Nat := (field ctl cfg.txdBufsz).toNat

/-- `TXD_CSTART`, the checksum start offset `S`. -/
def txdCsumStart (cfg : Cfg) (ctl : DWord) : Nat := (field ctl cfg.txdCstart).toNat

/-- `TXD_COFF`, the checksum store offset `O`. -/
def txdCsumOff (cfg : Cfg) (ctl : DWord) : Nat := (field ctl cfg.txdCoff).toNat

/-! ## The receive descriptor (R108, R109, R280) -/

/-- The guest write address: the buffer word with its low bits replaced by `RXCFG_FBOFF` (R280). -/
def rxBufferAddr (cfg : Cfg) (rxcfg : Word) (buf : DWord) : Addr :=
  (buf &&& ~~~ cfg.rxBufAlign) ||| (field rxcfg cfg.rxcfgFboff).setWidth 64

/-- The receive status word (R109) of a frame of `len` stored bytes. -/
def rxStatusWord (cfg : Cfg) (csum : Half) (len : Nat) (crc : Word) (hash alt : Bool) : DWord :=
  put cfg.rxdCsum (csum.setWidth 64)
    ||| put cfg.rxdLen (BitVec.ofNat 64 (len + cfg.trailer))
    ||| put cfg.rxdHashval ((crc >>> 16).setWidth 64)
    ||| (if hash then cfg.rxdHpass else 0#64)
    ||| (if alt then cfg.rxdAltmac else 0#64)

/-- The receive checksum from the configured offset; the empty range when it lies at or beyond the
end of the frame (R282). -/
def rxChecksum (cfg : Cfg) (rxcfg : Word) (g : List Byte) : Half :=
  let coff := (field rxcfg cfg.rxcfgCsumoff).toNat
  if coff < g.length then checksum cfg (g.drop coff) else checksum cfg []

/-- The frame padded with zero bytes to `PAD_FLOOR` (R267). -/
def padFrame (f : List Byte) : List Byte :=
  if f.length < padFloor then f ++ List.replicate (padFloor - f.length) 0#8 else f

/-! ## Management frames (R112) -/

/-- `MIF_ST` of a management frame. -/
def mifTag (cfg : Cfg) (v : Word) : Word := field v cfg.mifSt

/-- `MIF_OP` of a management frame. -/
def mifOpcode (cfg : Cfg) (v : Word) : Word := field v cfg.mifOp

/-- `MIF_PHYAD` of a management frame. -/
def mifPhy (cfg : Cfg) (v : Word) : Nat := (field v cfg.mifPhyad).toNat

/-- `MIF_REGAD` of a management frame. -/
def mifReg (cfg : Cfg) (v : Word) : Nat := (field v cfg.mifRegad).toNat

/-- What kind of management frame a data word is: the tag is looked at first, then the opcode (R211,
R212). -/
inductive MifKind where
  | write | read | badOp | badTag
  deriving DecidableEq, Repr

/-- The kind of a management frame (R211). -/
def mifKind (cfg : Cfg) (v : Word) : MifKind :=
  if mifTag cfg v ≠ cfg.mifStValid then .badTag
  else if mifOpcode cfg v = mifOpWrite then .write
  else if mifOpcode cfg v = mifOpRead then .read
  else .badOp

/-- The transceiver register indices that have a row of their own in the opcode table (R216). -/
def listedPhyRegs : List Nat := [0, 1, 2, 3, 4, 5, 24]

/-! ## The software-reset word (R48, R154) -/

/-- Which reset a word written to GREG_SWRST requests. -/
inductive SwrstKind where
  | all | rx | tx | none
  deriving DecidableEq, Repr

/-- The reset requested by the two request bits (R154). -/
def swrstKind (cfg : Cfg) (v : Word) : SwrstKind :=
  let req := v &&& (cfg.swrstTxrst ||| cfg.swrstRxrst)
  if req = cfg.swrstTxrst ||| cfg.swrstRxrst then .all
  else if req = cfg.swrstRxrst then .rx
  else if req = cfg.swrstTxrst then .tx
  else .none

end Sys2Proof.Machine
end

