-- ==== Sys2Proof/Syntax.lean ====
section
/-! DEFINITION. The instructions: one constructor per row of spec/opcode_table.json (30_encoding.md
R100 to R119). A docstring names the row as the specification writes it and the rule that gives its
meaning. `v` is a 32-bit data word, `off` a byte offset of the register space, `ctl`, `status` and `buf`
the 64-bit words of a descriptor. -/
namespace Sys2Proof

/-- What the block decodes or is asked to do (R22, R100). -/
inductive Instr where
  /-- `RD GREG_SEBSTATE` (R152). -/
  | rdGregSebstate
  /-- `WR GREG_SEBSTATE` (R152). -/
  | wrGregSebstate (v : Word)
  /-- `RD GREG_STAT` (R146). -/
  | rdGregStat
  /-- `WR GREG_STAT` (R147). -/
  | wrGregStat (v : Word)
  /-- `RD GREG_IMASK` (R150). -/
  | rdGregImask
  /-- `WR GREG_IMASK` (R150). -/
  | wrGregImask (v : Word)
  /-- `RD GREG_IACK` (R151). -/
  | rdGregIack
  /-- `WR GREG_IACK` (R151). -/
  | wrGregIack (v : Word)
  /-- `RD GREG_STAT2` (R148). -/
  | rdGregStat2
  /-- `WR GREG_STAT2` (R149). -/
  | wrGregStat2 (v : Word)
  /-- `RD GREG_PCIESTAT` (R152). -/
  | rdGregPciestat
  /-- `WR GREG_PCIESTAT` (R152). -/
  | wrGregPciestat (v : Word)
  /-- `RD GREG_PCIEMASK` (R153). -/
  | rdGregPciemask
  /-- `WR GREG_PCIEMASK` (R153). -/
  | wrGregPciemask (v : Word)
  /-- `RD GREG_SWRST` (R154). -/
  | rdGregSwrst
  /-- `WR GREG_SWRST` (R154). -/
  | wrGregSwrst (v : Word)
  /-- `RD TXDMA_KICK` (R155). -/
  | rdTxdmaKick
  /-- `WR TXDMA_KICK` (R155). -/
  | wrTxdmaKick (v : Word)
  /-- `RD TXDMA_CFG` (R156). -/
  | rdTxdmaCfg
  /-- `WR TXDMA_CFG` (R156). -/
  | wrTxdmaCfg (v : Word)
  /-- `RD TXDMA_DBLOW` (R157). -/
  | rdTxdmaDblow
  /-- `WR TXDMA_DBLOW` (R157). -/
  | wrTxdmaDblow (v : Word)
  /-- `RD TXDMA_DBHI` (R157). -/
  | rdTxdmaDbhi
  /-- `WR TXDMA_DBHI` (R157). -/
  | wrTxdmaDbhi (v : Word)
  /-- `RD TXDMA_PCNT` (R158). -/
  | rdTxdmaPcnt
  /-- `WR TXDMA_PCNT` (R158). -/
  | wrTxdmaPcnt (v : Word)
  /-- `RD TXDMA_SMACHINE` (R158). -/
  | rdTxdmaSmachine
  /-- `WR TXDMA_SMACHINE` (R158). -/
  | wrTxdmaSmachine (v : Word)
  /-- `RD TXDMA_DPLOW` (R158). -/
  | rdTxdmaDplow
  /-- `WR TXDMA_DPLOW` (R158). -/
  | wrTxdmaDplow (v : Word)
  /-- `RD TXDMA_DPHI` (R158). -/
  | rdTxdmaDphi
  /-- `WR TXDMA_DPHI` (R158). -/
  | wrTxdmaDphi (v : Word)
  /-- `RD TXDMA_TXDONE` (R158). -/
  | rdTxdmaTxdone
  /-- `WR TXDMA_TXDONE` (R158). -/
  | wrTxdmaTxdone (v : Word)
  /-- `RD TXDMA_FTAG` (R158). -/
  | rdTxdmaFtag
  /-- `WR TXDMA_FTAG` (R158). -/
  | wrTxdmaFtag (v : Word)
  /-- `RD TXDMA_FSZ` (R158). -/
  | rdTxdmaFsz
  /-- `WR TXDMA_FSZ` (R158). -/
  | wrTxdmaFsz (v : Word)
  /-- `RD RXDMA_CFG` (R159). -/
  | rdRxdmaCfg
  /-- `WR RXDMA_CFG` (R159). -/
  | wrRxdmaCfg (v : Word)
  /-- `RD RXDMA_DBLOW` (R160). -/
  | rdRxdmaDblow
  /-- `WR RXDMA_DBLOW` (R160). -/
  | wrRxdmaDblow (v : Word)
  /-- `RD RXDMA_DBHI` (R160). -/
  | rdRxdmaDbhi
  /-- `WR RXDMA_DBHI` (R160). -/
  | wrRxdmaDbhi (v : Word)
  /-- `RD RXDMA_PCNT` (R162). -/
  | rdRxdmaPcnt
  /-- `WR RXDMA_PCNT` (R162). -/
  | wrRxdmaPcnt (v : Word)
  /-- `RD RXDMA_SMACHINE` (R162). -/
  | rdRxdmaSmachine
  /-- `WR RXDMA_SMACHINE` (R162). -/
  | wrRxdmaSmachine (v : Word)
  /-- `RD RXDMA_DPLOW` (R162). -/
  | rdRxdmaDplow
  /-- `WR RXDMA_DPLOW` (R162). -/
  | wrRxdmaDplow (v : Word)
  /-- `RD RXDMA_DPHI` (R162). -/
  | rdRxdmaDphi
  /-- `WR RXDMA_DPHI` (R162). -/
  | wrRxdmaDphi (v : Word)
  /-- `RD RXDMA_KICK` (R161). -/
  | rdRxdmaKick
  /-- `WR RXDMA_KICK` (R161). -/
  | wrRxdmaKick (v : Word)
  /-- `RD RXDMA_DONE` (R162). -/
  | rdRxdmaDone
  /-- `WR RXDMA_DONE` (R162). -/
  | wrRxdmaDone (v : Word)
  /-- `RD RXDMA_FTAG` (R162). -/
  | rdRxdmaFtag
  /-- `WR RXDMA_FTAG` (R162). -/
  | wrRxdmaFtag (v : Word)
  /-- `RD RXDMA_FSZ` (R162). -/
  | rdRxdmaFsz
  /-- `WR RXDMA_FSZ` (R162). -/
  | wrRxdmaFsz (v : Word)
  /-- `RD MAC_TXRST` (R163). -/
  | rdMacTxrst
  /-- `WR MAC_TXRST` (R163). -/
  | wrMacTxrst (v : Word)
  /-- `RD MAC_RXRST` (R163). -/
  | rdMacRxrst
  /-- `WR MAC_RXRST` (R163). -/
  | wrMacRxrst (v : Word)
  /-- `RD MAC_TXSTAT` (R164). -/
  | rdMacTxstat
  /-- `WR MAC_TXSTAT` (R167). -/
  | wrMacTxstat (v : Word)
  /-- `RD MAC_RXSTAT` (R165). -/
  | rdMacRxstat
  /-- `WR MAC_RXSTAT` (R167). -/
  | wrMacRxstat (v : Word)
  /-- `RD MAC_CSTAT` (R166). -/
  | rdMacCstat
  /-- `WR MAC_CSTAT` (R167). -/
  | wrMacCstat (v : Word)
  /-- `RD MAC_TXMASK` (R168). -/
  | rdMacTxmask
  /-- `WR MAC_TXMASK` (R168). -/
  | wrMacTxmask (v : Word)
  /-- `RD MAC_RXMASK` (R168). -/
  | rdMacRxmask
  /-- `WR MAC_RXMASK` (R168). -/
  | wrMacRxmask (v : Word)
  /-- `RD MAC_MCMASK` (R168). -/
  | rdMacMcmask
  /-- `WR MAC_MCMASK` (R168). -/
  | wrMacMcmask (v : Word)
  /-- `RD MAC_TXCFG` (R169). -/
  | rdMacTxcfg
  /-- `WR MAC_TXCFG` (R169). -/
  | wrMacTxcfg (v : Word)
  /-- `RD MAC_RXCFG` (R170). -/
  | rdMacRxcfg
  /-- `WR MAC_RXCFG` (R170). -/
  | wrMacRxcfg (v : Word)
  /-- `RD MAC_XIFCFG` (R171). -/
  | rdMacXifcfg
  /-- `WR MAC_XIFCFG` (R171). -/
  | wrMacXifcfg (v : Word)
  /-- `RD MAC_MINFSZ` (R172). -/
  | rdMacMinfsz
  /-- `WR MAC_MINFSZ` (R172). -/
  | wrMacMinfsz (v : Word)
  /-- `RD MAC_MAXFSZ` (R173). -/
  | rdMacMaxfsz
  /-- `WR MAC_MAXFSZ` (R173). -/
  | wrMacMaxfsz (v : Word)
  /-- `RD MAC_ADDR0` (R174). -/
  | rdMacAddr0
  /-- `WR MAC_ADDR0` (R174). -/
  | wrMacAddr0 (v : Word)
  /-- `RD MAC_ADDR1` (R174). -/
  | rdMacAddr1
  /-- `WR MAC_ADDR1` (R174). -/
  | wrMacAddr1 (v : Word)
  /-- `RD MAC_ADDR2` (R174). -/
  | rdMacAddr2
  /-- `WR MAC_ADDR2` (R174). -/
  | wrMacAddr2 (v : Word)
  /-- `RD MAC_ADDR3` (R174). -/
  | rdMacAddr3
  /-- `WR MAC_ADDR3` (R174). -/
  | wrMacAddr3 (v : Word)
  /-- `RD MAC_ADDR4` (R174). -/
  | rdMacAddr4
  /-- `WR MAC_ADDR4` (R174). -/
  | wrMacAddr4 (v : Word)
  /-- `RD MAC_ADDR5` (R174). -/
  | rdMacAddr5
  /-- `WR MAC_ADDR5` (R174). -/
  | wrMacAddr5 (v : Word)
  /-- `RD MAC_HASH0` (R175). -/
  | rdMacHash0
  /-- `WR MAC_HASH0` (R175). -/
  | wrMacHash0 (v : Word)
  /-- `RD MAC_HASH1` (R175). -/
  | rdMacHash1
  /-- `WR MAC_HASH1` (R175). -/
  | wrMacHash1 (v : Word)
  /-- `RD MAC_HASH2` (R175). -/
  | rdMacHash2
  /-- `WR MAC_HASH2` (R175). -/
  | wrMacHash2 (v : Word)
  /-- `RD MAC_HASH3` (R175). -/
  | rdMacHash3
  /-- `WR MAC_HASH3` (R175). -/
  | wrMacHash3 (v : Word)
  /-- `RD MAC_HASH4` (R175). -/
  | rdMacHash4
  /-- `WR MAC_HASH4` (R175). -/
  | wrMacHash4 (v : Word)
  /-- `RD MAC_HASH5` (R175). -/
  | rdMacHash5
  /-- `WR MAC_HASH5` (R175). -/
  | wrMacHash5 (v : Word)
  /-- `RD MAC_HASH6` (R175). -/
  | rdMacHash6
  /-- `WR MAC_HASH6` (R175). -/
  | wrMacHash6 (v : Word)
  /-- `RD MAC_HASH7` (R175). -/
  | rdMacHash7
  /-- `WR MAC_HASH7` (R175). -/
  | wrMacHash7 (v : Word)
  /-- `RD MAC_HASH8` (R175). -/
  | rdMacHash8
  /-- `WR MAC_HASH8` (R175). -/
  | wrMacHash8 (v : Word)
  /-- `RD MAC_HASH9` (R175). -/
  | rdMacHash9
  /-- `WR MAC_HASH9` (R175). -/
  | wrMacHash9 (v : Word)
  /-- `RD MAC_HASH10` (R175). -/
  | rdMacHash10
  /-- `WR MAC_HASH10` (R175). -/
  | wrMacHash10 (v : Word)
  /-- `RD MAC_HASH11` (R175). -/
  | rdMacHash11
  /-- `WR MAC_HASH11` (R175). -/
  | wrMacHash11 (v : Word)
  /-- `RD MAC_HASH12` (R175). -/
  | rdMacHash12
  /-- `WR MAC_HASH12` (R175). -/
  | wrMacHash12 (v : Word)
  /-- `RD MAC_HASH13` (R175). -/
  | rdMacHash13
  /-- `WR MAC_HASH13` (R175). -/
  | wrMacHash13 (v : Word)
  /-- `RD MAC_HASH14` (R175). -/
  | rdMacHash14
  /-- `WR MAC_HASH14` (R175). -/
  | wrMacHash14 (v : Word)
  /-- `RD MAC_HASH15` (R175). -/
  | rdMacHash15
  /-- `WR MAC_HASH15` (R175). -/
  | wrMacHash15 (v : Word)
  /-- `RD MAC_PATMPS` (R176). -/
  | rdMacPatmps
  /-- `WR MAC_PATMPS` (R176). -/
  | wrMacPatmps (v : Word)
  /-- `RD MAC_SMACHINE` (R176). -/
  | rdMacSmachine
  /-- `WR MAC_SMACHINE` (R176). -/
  | wrMacSmachine (v : Word)
  /-- `RD MIF_FRAME` (R177). -/
  | rdMifFrame
  /-- `WR MIF_FRAME` (R177). -/
  | wrMifFrame (v : Word)
  /-- `RD MIF_CFG` (R178). -/
  | rdMifCfg
  /-- `WR MIF_CFG` (R178). -/
  | wrMifCfg (v : Word)
  /-- `RD MIF_STATUS` (R179). -/
  | rdMifStatus
  /-- `WR MIF_STATUS` (R179). -/
  | wrMifStatus (v : Word)
  /-- `RD MIF_SMACHINE` (R179). -/
  | rdMifSmachine
  /-- `WR MIF_SMACHINE` (R179). -/
  | wrMifSmachine (v : Word)
  /-- `RD PCS_MIISTAT` (R180). -/
  | rdPcsMiistat
  /-- `WR PCS_MIISTAT` (R180). -/
  | wrPcsMiistat (v : Word)
  /-- `RD PCS_ISTAT` (R180). -/
  | rdPcsIstat
  /-- `WR PCS_ISTAT` (R180). -/
  | wrPcsIstat (v : Word)
  /-- `RD PCS_SSTATE` (R180). -/
  | rdPcsSstate
  /-- `WR PCS_SSTATE` (R180). -/
  | wrPcsSstate (v : Word)
  /-- `RD <plain word>` (R145). -/
  | rdPlainWord (off : Word)
  /-- `WR <plain word>` (R145). -/
  | wrPlainWord (off : Word) (v : Word)
  /-- `RD <WOL word>` (R181). -/
  | rdWolWord (off : Word)
  /-- `WR <WOL word>` (R181). -/
  | wrWolWord (off : Word) (v : Word)
  /-- `RD <unmapped>` (R143). -/
  | rdUnmapped (off : Word)
  /-- `WR <unmapped>` (R144). -/
  | wrUnmapped (off : Word) (v : Word)
  /-- `SWRST.ALL` (R154). -/
  | swrstAll (v : Word)
  /-- `SWRST.RX` (R154). -/
  | swrstRx (v : Word)
  /-- `SWRST.TX` (R154). -/
  | swrstTx (v : Word)
  /-- `SWRST.NONE` (R154). -/
  | swrstNone (v : Word)
  /-- `MIF.WRITE` (R215). -/
  | mifWrite (v : Word)
  /-- `MIF.READ` (R217). -/
  | mifRead (v : Word)
  /-- `MIF.BADOP0` (R214). -/
  | mifBadOp0 (v : Word)
  /-- `MIF.BADOP3` (R214). -/
  | mifBadOp3 (v : Word)
  /-- `MIF.BADTAG0` (R213). -/
  | mifBadTag0 (v : Word)
  /-- `MIF.BADTAG2` (R213). -/
  | mifBadTag2 (v : Word)
  /-- `MIF.BADTAG3` (R213). -/
  | mifBadTag3 (v : Word)
  /-- `PHYREG 0 (control)` (R216). -/
  | phyreg0Control (v : Word)
  /-- `PHYREG 1 (status)` (R216). -/
  | phyreg1Status (v : Word)
  /-- `PHYREG 2 (identifier high)` (R216). -/
  | phyreg2IdentifierHigh (v : Word)
  /-- `PHYREG 3 (identifier low)` (R216). -/
  | phyreg3IdentifierLow (v : Word)
  /-- `PHYREG 4 (advertisement)` (R216). -/
  | phyreg4Advertisement (v : Word)
  /-- `PHYREG 5 (link partner)` (R216). -/
  | phyreg5LinkPartner (v : Word)
  /-- `PHYREG 24 (auxiliary)` (R216). -/
  | phyreg24Auxiliary (v : Word)
  /-- `PHYREG other` (R216). -/
  | phyregOther (v : Word)
  /-- `TXD` (R236). -/
  | txd (ctl : DWord) (buf : DWord)
  /-- `RXD.POSTED` (R279). -/
  | rxdPosted (status : DWord) (buf : DWord)
  /-- `RXD.STATUS` (R262). -/
  | rxdStatus (status : DWord) (buf : DWord)
  /-- `CanAccept` (R261). -/
  | canAccept
  /-- `Deliver` (R262). -/
  | deliver (frame : List Byte)
  /-- `BusReset` (R345). -/
  | busReset
  /-- `SetLink` (R221). -/
  | setLink (up : Bool)
  /-- `Kick` (R236). -/
  | kick
  /-- `Evaluate` (R191). -/
  | evaluate
  /-- `Cascade` (R192). -/
  | cascade
  /-- `Ack` (R198). -/
  | ack (v : Word)
  /-- `SetStatus` (R200). -/
  | setStatus (bits : Word) (on : Bool)
  /-- `MiiOp` (R211). -/
  | miiOp (v : Word)
  /-- `Classify` (R270). -/
  | classify (dst : MacAddr) (crc : Word)
  /-- `ResetRx` (R341). -/
  | resetRx
  /-- `ResetTx` (R342). -/
  | resetTx
  /-- `ResetAll` (R343). -/
  | resetAll (isBusReset : Bool)
  deriving DecidableEq, Repr

/-- The ports on which an operation reaches the block (R22, R74, R77, R79). A bus access carries its
width in bytes. `swrst`, `mif` and `phySelect` are the bus writes to GREG_SWRST and MIF_FRAME seen by
their data word, as the formats of the opcode table are. -/
inductive Port where
  | busRead (size : Nat)
  | busWrite (size : Nat)
  | swrst
  | mif
  | phySelect
  | canAccept
  | deliver
  | busReset
  | setLink
  deriving DecidableEq, Repr

/-- Where the bits of an instruction come from: a port of the block, or one of the objects the engines
move between the block and guest memory (R100): a transmit descriptor, a posted receive descriptor, a
receive descriptor as written back. -/
inductive Source where
  | port (p : Port)
  | txDescriptor
  | rxPosted
  | rxStatus
  deriving DecidableEq, Repr

/-- How decoding rejects what it is given. -/
inductive DecodeError where
  /-- A bus access that is not four bytes wide, not aligned, or outside the register space: event E12
  (R86, R302). -/
  | busRefused (offset size : Nat)
  /-- The bytes are not of the length, or not of the values, the format has. -/
  | malformed
  deriving DecidableEq, Repr

end Sys2Proof
end

