-- ==== Sys2Proof/WellFormed.lean ====
section
/-! DEFINITION. The well-formedness of a configuration (00_scope.md R10; log entry 15 for the conditions
beyond R10) and of an instruction: its operand lies in the row of the opcode table its constructor
stands for. -/
namespace Sys2Proof

open Sys2Proof.Machine

/-- No two masks of the list share a bit. -/
def disjointMasks {w : Nat} : List (BitVec w) → Bool
  | [] => true
  | m :: ms => (ms.all fun n => m &&& n == 0#w) && disjointMasks ms

/-- The set bits of a mask are contiguous, as `field` and `put` need (R11). -/
def contiguousMask {w : Nat} (m : BitVec w) : Bool :=
  let f := m >>> lowestSet m
  f &&& (f + 1#w) == 0#w

/-- Two banks share no byte offset (R10). -/
def banksApart (a b : Bank) : Bool := a.base + 4 * a.count ≤ b.base || b.base + 4 * b.count ≤ a.base

/-- No two banks of the list overlap. -/
def banksDisjoint : List Bank → Bool
  | [] => true
  | b :: bs => bs.all (banksApart b) && banksDisjoint bs

/-- Every bank base is a multiple of 4 and every bank lies inside the register space (R10). -/
def Cfg.banksPlaced (cfg : Cfg) : Bool :=
  cfg.banks.all fun b => b.base % 4 == 0 && b.base + 4 * b.count ≤ cfg.spaceBytes

/-- Every named register lies in the bank table T2 names (R10), at an aligned offset of its own (R34,
R86). -/
def Cfg.registersPlaced (cfg : Cfg) : Bool :=
  Reg.all.all fun r =>
    (decodeOffset cfg (offsetOf cfg r)).map Prod.fst == some (bankOf r)
      && offsetOf cfg r % 4 == 0
      && regAt cfg (offsetOf cfg r) == some r

/-- The masks of GREG_STAT (R41). -/
def Cfg.statMasks (cfg : Cfg) : List Word :=
  [cfg.statTxIntme, cfg.statTxAll, cfg.statTxDone, cfg.statRxDone, cfg.statRxNoBuf, cfg.statRxTagErr,
    cfg.statTxMac, cfg.statRxMac, cfg.statMac, cfg.statTxnr]

/-- The ring-size field of a DMA configuration word (R49). -/
def Cfg.ringszMask (cfg : Cfg) : Word :=
  BitVec.ofNat 32 (2 ^ cfg.ringszBits - 1) <<< cfg.dmacfgRingszShift

/-- The masks of a transmit control word (R106). -/
def Cfg.txdMasks (cfg : Cfg) : List DWord :=
  [cfg.txdBufsz, cfg.txdCstart, cfg.txdCoff, cfg.txdCenab, cfg.txdEof, cfg.txdSof, cfg.txdIntme]

/-- The masks of a receive status word (R109). -/
def Cfg.rxdMasks (cfg : Cfg) : List DWord :=
  [cfg.rxdCsum, cfg.rxdLen, cfg.rxdHashval, cfg.rxdHpass, cfg.rxdAltmac]

/-- The masks of a management frame; the acknowledgement is the low turnaround bit (R112). -/
def Cfg.mifMasks (cfg : Cfg) : List Word :=
  [cfg.mifSt, cfg.mifOp, cfg.mifPhyad, cfg.mifRegad, cfg.mifTamsb, cfg.mifAck, cfg.mifData]

/-- The field masks of one register or descriptor word do not overlap (R10). -/
def Cfg.masksDisjoint (cfg : Cfg) : Bool :=
  disjointMasks cfg.statMasks
    && disjointMasks [cfg.mifCfgClear, cfg.mifCfgSet]
    && disjointMasks [cfg.swrstTxrst, cfg.swrstRxrst, cfg.swrstRstout]
    && disjointMasks [cfg.dmacfgEnable, cfg.ringszMask, cfg.rxcfgFboff, cfg.rxcfgCsumoff]
    && disjointMasks [cfg.macRxcfgEnab, cfg.macRxcfgProm, cfg.macRxcfgPgrp, cfg.macRxcfgHfe]
    && disjointMasks cfg.txdMasks && disjointMasks cfg.rxdMasks && disjointMasks cfg.mifMasks

/-- The masks of multi-bit fields are contiguous (R11). -/
def Cfg.masksContiguous (cfg : Cfg) : Bool :=
  cfg.txdMasks.all contiguousMask && cfg.rxdMasks.all contiguousMask
    && cfg.mifMasks.all contiguousMask
    && [cfg.rxcfgFboff, cfg.rxcfgCsumoff, cfg.statTxnr].all contiguousMask

/-- The lengths of R10, and a register space that a 32-bit offset operand can address. -/
def Cfg.sizesFit (cfg : Cfg) : Bool :=
  padFloor ≤ cfg.txAccMax && macAddrBytes ≤ cfg.rxMinLen && cfg.spaceBytes ≤ 2 ^ 32

/-- A configuration a model may be built with (R10). -/
def Cfg.wellFormed (cfg : Cfg) : Bool :=
  cfg.banksPlaced && banksDisjoint cfg.banks && cfg.registersPlaced && cfg.masksDisjoint
    && cfg.masksContiguous && cfg.sizesFit

/-- The offset reaches the block and selects `p` (R86, R103). -/
def selectsPlace (cfg : Cfg) (off : Word) (p : Place) : Bool :=
  busReaches cfg accessBytes off.toNat && placeOf cfg off.toNat == p

/-- The word is a valid management read of the transceiver register `n` (R216). -/
def readsPhyReg (cfg : Cfg) (v : Word) (n : Nat) : Bool :=
  mifKind cfg v == .read && mifReg cfg v == n

/-- The named bits of GREG_STAT, all that `SetStatus` may be given (R200). -/
def Cfg.namedStatus (cfg : Cfg) : Word :=
  cfg.statTxIntme ||| cfg.statTxAll ||| cfg.statTxDone ||| cfg.statRxDone ||| cfg.statRxNoBuf
    ||| cfg.statRxTagErr ||| cfg.statTxMac ||| cfg.statRxMac ||| cfg.statMac

/-- The bits a receive status word may have set (R109). -/
def Cfg.rxdNamed (cfg : Cfg) : DWord :=
  cfg.rxdCsum ||| cfg.rxdLen ||| cfg.rxdHashval ||| cfg.rxdHpass ||| cfg.rxdAltmac

/-- The operands of the instruction lie in its row of the opcode table. -/
def Instr.wellFormed (cfg : Cfg) : Instr → Bool
  | .rdPlainWord off => selectsPlace cfg off .plain
  | .wrPlainWord off _ => selectsPlace cfg off .plain
  | .rdWolWord off => selectsPlace cfg off .wol
  | .wrWolWord off _ => selectsPlace cfg off .wol
  | .rdUnmapped off => selectsPlace cfg off .unmapped
  | .wrUnmapped off _ => selectsPlace cfg off .unmapped
  | .swrstAll v => swrstKind cfg v == .all
  | .swrstRx v => swrstKind cfg v == .rx
  | .swrstTx v => swrstKind cfg v == .tx
  | .swrstNone v => swrstKind cfg v == .none
  | .mifWrite v => mifKind cfg v == .write
  | .mifRead v => mifKind cfg v == .read
  | .mifBadOp0 v => mifKind cfg v == .badOp && mifOpcode cfg v == 0#32
  | .mifBadOp3 v => mifKind cfg v == .badOp && mifOpcode cfg v == 3#32
  | .mifBadTag0 v => mifKind cfg v == .badTag && mifTag cfg v == 0#32
  | .mifBadTag2 v => mifKind cfg v == .badTag && mifTag cfg v == 2#32
  | .mifBadTag3 v => mifKind cfg v == .badTag && mifTag cfg v == 3#32
  | .phyreg0Control v => readsPhyReg cfg v 0
  | .phyreg1Status v => readsPhyReg cfg v 1
  | .phyreg2IdentifierHigh v => readsPhyReg cfg v 2
  | .phyreg3IdentifierLow v => readsPhyReg cfg v 3
  | .phyreg4Advertisement v => readsPhyReg cfg v 4
  | .phyreg5LinkPartner v => readsPhyReg cfg v 5
  | .phyreg24Auxiliary v => readsPhyReg cfg v 24
  | .phyregOther v => mifKind cfg v == .read && !listedPhyRegs.contains (mifReg cfg v)
  | .rxdStatus status _ => status &&& ~~~ cfg.rxdNamed == 0#64
  | .setStatus bits _ => bits &&& ~~~ cfg.namedStatus == 0#32
  | .rdGregSebstate | .wrGregSebstate _ | .rdGregStat | .wrGregStat _ | .rdGregImask
  | .wrGregImask _ | .rdGregIack | .wrGregIack _ | .rdGregStat2 | .wrGregStat2 _ | .rdGregPciestat
  | .wrGregPciestat _ | .rdGregPciemask | .wrGregPciemask _ | .rdGregSwrst | .wrGregSwrst _
  | .rdTxdmaKick | .wrTxdmaKick _ | .rdTxdmaCfg | .wrTxdmaCfg _ | .rdTxdmaDblow | .wrTxdmaDblow _
  | .rdTxdmaDbhi | .wrTxdmaDbhi _ | .rdTxdmaPcnt | .wrTxdmaPcnt _ | .rdTxdmaSmachine
  | .wrTxdmaSmachine _ | .rdTxdmaDplow | .wrTxdmaDplow _ | .rdTxdmaDphi | .wrTxdmaDphi _
  | .rdTxdmaTxdone | .wrTxdmaTxdone _ | .rdTxdmaFtag | .wrTxdmaFtag _ | .rdTxdmaFsz
  | .wrTxdmaFsz _ | .rdRxdmaCfg | .wrRxdmaCfg _ | .rdRxdmaDblow | .wrRxdmaDblow _ | .rdRxdmaDbhi
  | .wrRxdmaDbhi _ | .rdRxdmaPcnt | .wrRxdmaPcnt _ | .rdRxdmaSmachine | .wrRxdmaSmachine _
  | .rdRxdmaDplow | .wrRxdmaDplow _ | .rdRxdmaDphi | .wrRxdmaDphi _ | .rdRxdmaKick
  | .wrRxdmaKick _ | .rdRxdmaDone | .wrRxdmaDone _ | .rdRxdmaFtag | .wrRxdmaFtag _ | .rdRxdmaFsz
  | .wrRxdmaFsz _ | .rdMacTxrst | .wrMacTxrst _ | .rdMacRxrst | .wrMacRxrst _ | .rdMacTxstat
  | .wrMacTxstat _ | .rdMacRxstat | .wrMacRxstat _ | .rdMacCstat | .wrMacCstat _ | .rdMacTxmask
  | .wrMacTxmask _ | .rdMacRxmask | .wrMacRxmask _ | .rdMacMcmask | .wrMacMcmask _ | .rdMacTxcfg
  | .wrMacTxcfg _ | .rdMacRxcfg | .wrMacRxcfg _ | .rdMacXifcfg | .wrMacXifcfg _ | .rdMacMinfsz
  | .wrMacMinfsz _ | .rdMacMaxfsz | .wrMacMaxfsz _ | .rdMacAddr0 | .wrMacAddr0 _ | .rdMacAddr1
  | .wrMacAddr1 _ | .rdMacAddr2 | .wrMacAddr2 _ | .rdMacAddr3 | .wrMacAddr3 _ | .rdMacAddr4
  | .wrMacAddr4 _ | .rdMacAddr5 | .wrMacAddr5 _ | .rdMacHash0 | .wrMacHash0 _ | .rdMacHash1
  | .wrMacHash1 _ | .rdMacHash2 | .wrMacHash2 _ | .rdMacHash3 | .wrMacHash3 _ | .rdMacHash4
  | .wrMacHash4 _ | .rdMacHash5 | .wrMacHash5 _ | .rdMacHash6 | .wrMacHash6 _ | .rdMacHash7
  | .wrMacHash7 _ | .rdMacHash8 | .wrMacHash8 _ | .rdMacHash9 | .wrMacHash9 _ | .rdMacHash10
  | .wrMacHash10 _ | .rdMacHash11 | .wrMacHash11 _ | .rdMacHash12 | .wrMacHash12 _ | .rdMacHash13
  | .wrMacHash13 _ | .rdMacHash14 | .wrMacHash14 _ | .rdMacHash15 | .wrMacHash15 _ | .rdMacPatmps
  | .wrMacPatmps _ | .rdMacSmachine | .wrMacSmachine _ | .rdMifFrame | .wrMifFrame _ | .rdMifCfg
  | .wrMifCfg _ | .rdMifStatus | .wrMifStatus _ | .rdMifSmachine | .wrMifSmachine _
  | .rdPcsMiistat | .wrPcsMiistat _ | .rdPcsIstat | .wrPcsIstat _ | .rdPcsSstate | .wrPcsSstate _
  | .txd _ _ | .rxdPosted _ _ | .canAccept | .deliver _ | .busReset | .setLink _ | .kick
  | .evaluate | .cascade | .ack _ | .miiOp _ | .classify _ _ | .resetRx | .resetTx
  | .resetAll _ => true

end Sys2Proof
end

