-- ==== Sys2Proof/Decode.lean ====
section
/-! DEFINITION. The decoder and the encoder (30_encoding.md). An instruction arrives from a `Source`:
a port of the block, whose bytes are laid out little-endian (R80), or an object an engine moves between
the block and guest memory. How the requests of a port are framed (four offset bytes, then the data
bytes) is the model's (log entry 1); every field inside them is the specification's. The internal
procedures have no encoding and are never decoded (R22, R190; log entry 10). -/
namespace Sys2Proof

open Sys2Proof.Machine

/-- The bus read of a named register. -/
def rdInstr : Reg → Instr
  | .gregSebstate => .rdGregSebstate
  | .gregStat => .rdGregStat
  | .gregImask => .rdGregImask
  | .gregIack => .rdGregIack
  | .gregStat2 => .rdGregStat2
  | .gregPciestat => .rdGregPciestat
  | .gregPciemask => .rdGregPciemask
  | .gregSwrst => .rdGregSwrst
  | .txdmaKick => .rdTxdmaKick
  | .txdmaCfg => .rdTxdmaCfg
  | .txdmaDblow => .rdTxdmaDblow
  | .txdmaDbhi => .rdTxdmaDbhi
  | .txdmaPcnt => .rdTxdmaPcnt
  | .txdmaSmachine => .rdTxdmaSmachine
  | .txdmaDplow => .rdTxdmaDplow
  | .txdmaDphi => .rdTxdmaDphi
  | .txdmaTxdone => .rdTxdmaTxdone
  | .txdmaFtag => .rdTxdmaFtag
  | .txdmaFsz => .rdTxdmaFsz
  | .rxdmaCfg => .rdRxdmaCfg
  | .rxdmaDblow => .rdRxdmaDblow
  | .rxdmaDbhi => .rdRxdmaDbhi
  | .rxdmaPcnt => .rdRxdmaPcnt
  | .rxdmaSmachine => .rdRxdmaSmachine
  | .rxdmaDplow => .rdRxdmaDplow
  | .rxdmaDphi => .rdRxdmaDphi
  | .rxdmaKick => .rdRxdmaKick
  | .rxdmaDone => .rdRxdmaDone
  | .rxdmaFtag => .rdRxdmaFtag
  | .rxdmaFsz => .rdRxdmaFsz
  | .macTxrst => .rdMacTxrst
  | .macRxrst => .rdMacRxrst
  | .macTxstat => .rdMacTxstat
  | .macRxstat => .rdMacRxstat
  | .macCstat => .rdMacCstat
  | .macTxmask => .rdMacTxmask
  | .macRxmask => .rdMacRxmask
  | .macMcmask => .rdMacMcmask
  | .macTxcfg => .rdMacTxcfg
  | .macRxcfg => .rdMacRxcfg
  | .macXifcfg => .rdMacXifcfg
  | .macMinfsz => .rdMacMinfsz
  | .macMaxfsz => .rdMacMaxfsz
  | .macAddr0 => .rdMacAddr0
  | .macAddr1 => .rdMacAddr1
  | .macAddr2 => .rdMacAddr2
  | .macAddr3 => .rdMacAddr3
  | .macAddr4 => .rdMacAddr4
  | .macAddr5 => .rdMacAddr5
  | .macHash0 => .rdMacHash0
  | .macHash1 => .rdMacHash1
  | .macHash2 => .rdMacHash2
  | .macHash3 => .rdMacHash3
  | .macHash4 => .rdMacHash4
  | .macHash5 => .rdMacHash5
  | .macHash6 => .rdMacHash6
  | .macHash7 => .rdMacHash7
  | .macHash8 => .rdMacHash8
  | .macHash9 => .rdMacHash9
  | .macHash10 => .rdMacHash10
  | .macHash11 => .rdMacHash11
  | .macHash12 => .rdMacHash12
  | .macHash13 => .rdMacHash13
  | .macHash14 => .rdMacHash14
  | .macHash15 => .rdMacHash15
  | .macPatmps => .rdMacPatmps
  | .macSmachine => .rdMacSmachine
  | .mifFrame => .rdMifFrame
  | .mifCfg => .rdMifCfg
  | .mifStatus => .rdMifStatus
  | .mifSmachine => .rdMifSmachine
  | .pcsMiistat => .rdPcsMiistat
  | .pcsIstat => .rdPcsIstat
  | .pcsSstate => .rdPcsSstate

/-- The bus write of a data word to a named register. -/
def wrInstr (v : Word) : Reg → Instr
  | .gregSebstate => .wrGregSebstate v
  | .gregStat => .wrGregStat v
  | .gregImask => .wrGregImask v
  | .gregIack => .wrGregIack v
  | .gregStat2 => .wrGregStat2 v
  | .gregPciestat => .wrGregPciestat v
  | .gregPciemask => .wrGregPciemask v
  | .gregSwrst => .wrGregSwrst v
  | .txdmaKick => .wrTxdmaKick v
  | .txdmaCfg => .wrTxdmaCfg v
  | .txdmaDblow => .wrTxdmaDblow v
  | .txdmaDbhi => .wrTxdmaDbhi v
  | .txdmaPcnt => .wrTxdmaPcnt v
  | .txdmaSmachine => .wrTxdmaSmachine v
  | .txdmaDplow => .wrTxdmaDplow v
  | .txdmaDphi => .wrTxdmaDphi v
  | .txdmaTxdone => .wrTxdmaTxdone v
  | .txdmaFtag => .wrTxdmaFtag v
  | .txdmaFsz => .wrTxdmaFsz v
  | .rxdmaCfg => .wrRxdmaCfg v
  | .rxdmaDblow => .wrRxdmaDblow v
  | .rxdmaDbhi => .wrRxdmaDbhi v
  | .rxdmaPcnt => .wrRxdmaPcnt v
  | .rxdmaSmachine => .wrRxdmaSmachine v
  | .rxdmaDplow => .wrRxdmaDplow v
  | .rxdmaDphi => .wrRxdmaDphi v
  | .rxdmaKick => .wrRxdmaKick v
  | .rxdmaDone => .wrRxdmaDone v
  | .rxdmaFtag => .wrRxdmaFtag v
  | .rxdmaFsz => .wrRxdmaFsz v
  | .macTxrst => .wrMacTxrst v
  | .macRxrst => .wrMacRxrst v
  | .macTxstat => .wrMacTxstat v
  | .macRxstat => .wrMacRxstat v
  | .macCstat => .wrMacCstat v
  | .macTxmask => .wrMacTxmask v
  | .macRxmask => .wrMacRxmask v
  | .macMcmask => .wrMacMcmask v
  | .macTxcfg => .wrMacTxcfg v
  | .macRxcfg => .wrMacRxcfg v
  | .macXifcfg => .wrMacXifcfg v
  | .macMinfsz => .wrMacMinfsz v
  | .macMaxfsz => .wrMacMaxfsz v
  | .macAddr0 => .wrMacAddr0 v
  | .macAddr1 => .wrMacAddr1 v
  | .macAddr2 => .wrMacAddr2 v
  | .macAddr3 => .wrMacAddr3 v
  | .macAddr4 => .wrMacAddr4 v
  | .macAddr5 => .wrMacAddr5 v
  | .macHash0 => .wrMacHash0 v
  | .macHash1 => .wrMacHash1 v
  | .macHash2 => .wrMacHash2 v
  | .macHash3 => .wrMacHash3 v
  | .macHash4 => .wrMacHash4 v
  | .macHash5 => .wrMacHash5 v
  | .macHash6 => .wrMacHash6 v
  | .macHash7 => .wrMacHash7 v
  | .macHash8 => .wrMacHash8 v
  | .macHash9 => .wrMacHash9 v
  | .macHash10 => .wrMacHash10 v
  | .macHash11 => .wrMacHash11 v
  | .macHash12 => .wrMacHash12 v
  | .macHash13 => .wrMacHash13 v
  | .macHash14 => .wrMacHash14 v
  | .macHash15 => .wrMacHash15 v
  | .macPatmps => .wrMacPatmps v
  | .macSmachine => .wrMacSmachine v
  | .mifFrame => .wrMifFrame v
  | .mifCfg => .wrMifCfg v
  | .mifStatus => .wrMifStatus v
  | .mifSmachine => .wrMifSmachine v
  | .pcsMiistat => .wrPcsMiistat v
  | .pcsIstat => .wrPcsIstat v
  | .pcsSstate => .wrPcsSstate v

/-- The bus read an offset selects (R103). -/
def readAt (off : Word) : Place → Instr
  | .named r => rdInstr r
  | .wol => .rdWolWord off
  | .plain => .rdPlainWord off
  | .unmapped => .rdUnmapped off

/-- The bus write an offset selects (R103). -/
def writeAt (off v : Word) : Place → Instr
  | .named r => wrInstr v r
  | .wol => .wrWolWord off v
  | .plain => .wrPlainWord off v
  | .unmapped => .wrUnmapped off v

/-- A bus read of `size` bytes: four offset bytes (R101). -/
def decodeBusRead (cfg : Cfg) (size : Nat) (bytes : List Byte) : Except DecodeError Instr :=
  if bytes.length = 4 then
    let off := fromLE 32 bytes
    if busReaches cfg size off.toNat then .ok (readAt off (placeOf cfg off.toNat))
    else .error (.busRefused off.toNat size)
  else .error .malformed

/-- A bus write of `size` bytes: four offset bytes, then the data bytes (R101). -/
def decodeBusWrite (cfg : Cfg) (size : Nat) (bytes : List Byte) : Except DecodeError Instr :=
  if bytes.length = 4 + size then
    let off := fromLE 32 (bytes.take 4)
    if busReaches cfg size off.toNat then
      .ok (writeAt off (fromLE 32 (bytes.drop 4)) (placeOf cfg off.toNat))
    else .error (.busRefused off.toNat size)
  else .error .malformed

/-- The row of a word written to GREG_SWRST (R154). -/
def swrstInstr (cfg : Cfg) (v : Word) : Instr :=
  match swrstKind cfg v with
  | .all => .swrstAll v
  | .rx => .swrstRx v
  | .tx => .swrstTx v
  | .none => .swrstNone v

/-- The row of a word written to MIF_FRAME (R112, R114). A tag or an opcode without a row of its own, which
only a configuration with another `MIF_ST_VALID` or `MIF_OP` can have, is the write of MIF_FRAME itself
(R177; log entry 26). -/
def mifInstr (cfg : Cfg) (v : Word) : Instr :=
  match mifKind cfg v with
  | .write => .mifWrite v
  | .read => .mifRead v
  | .badOp =>
    if mifOpcode cfg v = 0#32 then .mifBadOp0 v
    else if mifOpcode cfg v = 3#32 then .mifBadOp3 v
    else .wrMifFrame v
  | .badTag =>
    if mifTag cfg v = 0#32 then .mifBadTag0 v
    else if mifTag cfg v = 2#32 then .mifBadTag2 v
    else if mifTag cfg v = 3#32 then .mifBadTag3 v
    else .wrMifFrame v

/-- The row of a management read, by the transceiver register it selects (R216); a word that is no valid
read frame selects none and is the write of MIF_FRAME itself (R177; log entry 26). -/
def phyInstr (cfg : Cfg) (v : Word) : Instr :=
  if mifKind cfg v = .read then
    match mifReg cfg v with
    | 0 => .phyreg0Control v
    | 1 => .phyreg1Status v
    | 2 => .phyreg2IdentifierHigh v
    | 3 => .phyreg3IdentifierLow v
    | 4 => .phyreg4Advertisement v
    | 5 => .phyreg5LinkPartner v
    | 24 => .phyreg24Auxiliary v
    | _ => .phyregOther v
  else .wrMifFrame v

/-- A 32-bit data word given as four bytes. -/
def decodeWord (bytes : List Byte) (k : Word → Instr) : Except DecodeError Instr :=
  if bytes.length = 4 then .ok (k (fromLE 32 bytes)) else .error .malformed

/-- A descriptor given as its 16 bytes (R104). -/
def decodeDescriptor (cfg : Cfg) (bytes : List Byte) (k : DWord → DWord → Instr) :
    Except DecodeError Instr :=
  if bytes.length = descBytes then
    .ok (k (descWord0 cfg.descOrder bytes) (descWord1 cfg.descOrder bytes))
  else .error .malformed

/-- An operation without operands. -/
def decodeNone (bytes : List Byte) (i : Instr) : Except DecodeError Instr :=
  if bytes = [] then .ok i else .error .malformed

/-- `SetLink(b)` with `b` one byte, 0 or 1 (R221). -/
def decodeLink (bytes : List Byte) : Except DecodeError Instr :=
  if bytes = [0#8] then .ok (.setLink false)
  else if bytes = [1#8] then .ok (.setLink true)
  else .error .malformed

/-- The decoder, total on any bytes from any source. -/
def decode (cfg : Cfg) (src : Source) (bytes : List Byte) : Except DecodeError Instr :=
  match src with
  | .port (.busRead size) => decodeBusRead cfg size bytes
  | .port (.busWrite size) => decodeBusWrite cfg size bytes
  | .port .swrst => decodeWord bytes (swrstInstr cfg)
  | .port .mif => decodeWord bytes (mifInstr cfg)
  | .port .phySelect => decodeWord bytes (phyInstr cfg)
  | .port .canAccept => decodeNone bytes .canAccept
  | .port .deliver => .ok (.deliver bytes)
  | .port .busReset => decodeNone bytes .busReset
  | .port .setLink => decodeLink bytes
  | .txDescriptor => decodeDescriptor cfg bytes .txd
  | .rxPosted => decodeDescriptor cfg bytes .rxdPosted
  | .rxStatus => decodeDescriptor cfg bytes .rxdStatus

/-! ## The encoder -/

/-- A bus read of the offset. -/
def readRequest (off : Word) : Source × List Byte := (.port (.busRead accessBytes), toLE 4 off)

/-- A bus write of the data word to the offset. -/
def writeRequest (off v : Word) : Source × List Byte :=
  (.port (.busWrite accessBytes), toLE 4 off ++ toLE 4 v)

/-- The bus read of a named register. -/
def readReg (cfg : Cfg) (r : Reg) : Source × List Byte :=
  readRequest (BitVec.ofNat 32 (offsetOf cfg r))

/-- The bus write of a named register. -/
def writeReg (cfg : Cfg) (r : Reg) (v : Word) : Source × List Byte :=
  writeRequest (BitVec.ofNat 32 (offsetOf cfg r)) v

/-- The encoder: the source an instruction comes from and its bytes there; `none` for an internal
procedure, which has no encoding (R22, R100). -/
def encode (cfg : Cfg) : Instr → Option (Source × List Byte)
  | .rdGregSebstate => some (readReg cfg .gregSebstate)
  | .wrGregSebstate v => some (writeReg cfg .gregSebstate v)
  | .rdGregStat => some (readReg cfg .gregStat)
  | .wrGregStat v => some (writeReg cfg .gregStat v)
  | .rdGregImask => some (readReg cfg .gregImask)
  | .wrGregImask v => some (writeReg cfg .gregImask v)
  | .rdGregIack => some (readReg cfg .gregIack)
  | .wrGregIack v => some (writeReg cfg .gregIack v)
  | .rdGregStat2 => some (readReg cfg .gregStat2)
  | .wrGregStat2 v => some (writeReg cfg .gregStat2 v)
  | .rdGregPciestat => some (readReg cfg .gregPciestat)
  | .wrGregPciestat v => some (writeReg cfg .gregPciestat v)
  | .rdGregPciemask => some (readReg cfg .gregPciemask)
  | .wrGregPciemask v => some (writeReg cfg .gregPciemask v)
  | .rdGregSwrst => some (readReg cfg .gregSwrst)
  | .wrGregSwrst v => some (writeReg cfg .gregSwrst v)
  | .rdTxdmaKick => some (readReg cfg .txdmaKick)
  | .wrTxdmaKick v => some (writeReg cfg .txdmaKick v)
  | .rdTxdmaCfg => some (readReg cfg .txdmaCfg)
  | .wrTxdmaCfg v => some (writeReg cfg .txdmaCfg v)
  | .rdTxdmaDblow => some (readReg cfg .txdmaDblow)
  | .wrTxdmaDblow v => some (writeReg cfg .txdmaDblow v)
  | .rdTxdmaDbhi => some (readReg cfg .txdmaDbhi)
  | .wrTxdmaDbhi v => some (writeReg cfg .txdmaDbhi v)
  | .rdTxdmaPcnt => some (readReg cfg .txdmaPcnt)
  | .wrTxdmaPcnt v => some (writeReg cfg .txdmaPcnt v)
  | .rdTxdmaSmachine => some (readReg cfg .txdmaSmachine)
  | .wrTxdmaSmachine v => some (writeReg cfg .txdmaSmachine v)
  | .rdTxdmaDplow => some (readReg cfg .txdmaDplow)
  | .wrTxdmaDplow v => some (writeReg cfg .txdmaDplow v)
  | .rdTxdmaDphi => some (readReg cfg .txdmaDphi)
  | .wrTxdmaDphi v => some (writeReg cfg .txdmaDphi v)
  | .rdTxdmaTxdone => some (readReg cfg .txdmaTxdone)
  | .wrTxdmaTxdone v => some (writeReg cfg .txdmaTxdone v)
  | .rdTxdmaFtag => some (readReg cfg .txdmaFtag)
  | .wrTxdmaFtag v => some (writeReg cfg .txdmaFtag v)
  | .rdTxdmaFsz => some (readReg cfg .txdmaFsz)
  | .wrTxdmaFsz v => some (writeReg cfg .txdmaFsz v)
  | .rdRxdmaCfg => some (readReg cfg .rxdmaCfg)
  | .wrRxdmaCfg v => some (writeReg cfg .rxdmaCfg v)
  | .rdRxdmaDblow => some (readReg cfg .rxdmaDblow)
  | .wrRxdmaDblow v => some (writeReg cfg .rxdmaDblow v)
  | .rdRxdmaDbhi => some (readReg cfg .rxdmaDbhi)
  | .wrRxdmaDbhi v => some (writeReg cfg .rxdmaDbhi v)
  | .rdRxdmaPcnt => some (readReg cfg .rxdmaPcnt)
  | .wrRxdmaPcnt v => some (writeReg cfg .rxdmaPcnt v)
  | .rdRxdmaSmachine => some (readReg cfg .rxdmaSmachine)
  | .wrRxdmaSmachine v => some (writeReg cfg .rxdmaSmachine v)
  | .rdRxdmaDplow => some (readReg cfg .rxdmaDplow)
  | .wrRxdmaDplow v => some (writeReg cfg .rxdmaDplow v)
  | .rdRxdmaDphi => some (readReg cfg .rxdmaDphi)
  | .wrRxdmaDphi v => some (writeReg cfg .rxdmaDphi v)
  | .rdRxdmaKick => some (readReg cfg .rxdmaKick)
  | .wrRxdmaKick v => some (writeReg cfg .rxdmaKick v)
  | .rdRxdmaDone => some (readReg cfg .rxdmaDone)
  | .wrRxdmaDone v => some (writeReg cfg .rxdmaDone v)
  | .rdRxdmaFtag => some (readReg cfg .rxdmaFtag)
  | .wrRxdmaFtag v => some (writeReg cfg .rxdmaFtag v)
  | .rdRxdmaFsz => some (readReg cfg .rxdmaFsz)
  | .wrRxdmaFsz v => some (writeReg cfg .rxdmaFsz v)
  | .rdMacTxrst => some (readReg cfg .macTxrst)
  | .wrMacTxrst v => some (writeReg cfg .macTxrst v)
  | .rdMacRxrst => some (readReg cfg .macRxrst)
  | .wrMacRxrst v => some (writeReg cfg .macRxrst v)
  | .rdMacTxstat => some (readReg cfg .macTxstat)
  | .wrMacTxstat v => some (writeReg cfg .macTxstat v)
  | .rdMacRxstat => some (readReg cfg .macRxstat)
  | .wrMacRxstat v => some (writeReg cfg .macRxstat v)
  | .rdMacCstat => some (readReg cfg .macCstat)
  | .wrMacCstat v => some (writeReg cfg .macCstat v)
  | .rdMacTxmask => some (readReg cfg .macTxmask)
  | .wrMacTxmask v => some (writeReg cfg .macTxmask v)
  | .rdMacRxmask => some (readReg cfg .macRxmask)
  | .wrMacRxmask v => some (writeReg cfg .macRxmask v)
  | .rdMacMcmask => some (readReg cfg .macMcmask)
  | .wrMacMcmask v => some (writeReg cfg .macMcmask v)
  | .rdMacTxcfg => some (readReg cfg .macTxcfg)
  | .wrMacTxcfg v => some (writeReg cfg .macTxcfg v)
  | .rdMacRxcfg => some (readReg cfg .macRxcfg)
  | .wrMacRxcfg v => some (writeReg cfg .macRxcfg v)
  | .rdMacXifcfg => some (readReg cfg .macXifcfg)
  | .wrMacXifcfg v => some (writeReg cfg .macXifcfg v)
  | .rdMacMinfsz => some (readReg cfg .macMinfsz)
  | .wrMacMinfsz v => some (writeReg cfg .macMinfsz v)
  | .rdMacMaxfsz => some (readReg cfg .macMaxfsz)
  | .wrMacMaxfsz v => some (writeReg cfg .macMaxfsz v)
  | .rdMacAddr0 => some (readReg cfg .macAddr0)
  | .wrMacAddr0 v => some (writeReg cfg .macAddr0 v)
  | .rdMacAddr1 => some (readReg cfg .macAddr1)
  | .wrMacAddr1 v => some (writeReg cfg .macAddr1 v)
  | .rdMacAddr2 => some (readReg cfg .macAddr2)
  | .wrMacAddr2 v => some (writeReg cfg .macAddr2 v)
  | .rdMacAddr3 => some (readReg cfg .macAddr3)
  | .wrMacAddr3 v => some (writeReg cfg .macAddr3 v)
  | .rdMacAddr4 => some (readReg cfg .macAddr4)
  | .wrMacAddr4 v => some (writeReg cfg .macAddr4 v)
  | .rdMacAddr5 => some (readReg cfg .macAddr5)
  | .wrMacAddr5 v => some (writeReg cfg .macAddr5 v)
  | .rdMacHash0 => some (readReg cfg .macHash0)
  | .wrMacHash0 v => some (writeReg cfg .macHash0 v)
  | .rdMacHash1 => some (readReg cfg .macHash1)
  | .wrMacHash1 v => some (writeReg cfg .macHash1 v)
  | .rdMacHash2 => some (readReg cfg .macHash2)
  | .wrMacHash2 v => some (writeReg cfg .macHash2 v)
  | .rdMacHash3 => some (readReg cfg .macHash3)
  | .wrMacHash3 v => some (writeReg cfg .macHash3 v)
  | .rdMacHash4 => some (readReg cfg .macHash4)
  | .wrMacHash4 v => some (writeReg cfg .macHash4 v)
  | .rdMacHash5 => some (readReg cfg .macHash5)
  | .wrMacHash5 v => some (writeReg cfg .macHash5 v)
  | .rdMacHash6 => some (readReg cfg .macHash6)
  | .wrMacHash6 v => some (writeReg cfg .macHash6 v)
  | .rdMacHash7 => some (readReg cfg .macHash7)
  | .wrMacHash7 v => some (writeReg cfg .macHash7 v)
  | .rdMacHash8 => some (readReg cfg .macHash8)
  | .wrMacHash8 v => some (writeReg cfg .macHash8 v)
  | .rdMacHash9 => some (readReg cfg .macHash9)
  | .wrMacHash9 v => some (writeReg cfg .macHash9 v)
  | .rdMacHash10 => some (readReg cfg .macHash10)
  | .wrMacHash10 v => some (writeReg cfg .macHash10 v)
  | .rdMacHash11 => some (readReg cfg .macHash11)
  | .wrMacHash11 v => some (writeReg cfg .macHash11 v)
  | .rdMacHash12 => some (readReg cfg .macHash12)
  | .wrMacHash12 v => some (writeReg cfg .macHash12 v)
  | .rdMacHash13 => some (readReg cfg .macHash13)
  | .wrMacHash13 v => some (writeReg cfg .macHash13 v)
  | .rdMacHash14 => some (readReg cfg .macHash14)
  | .wrMacHash14 v => some (writeReg cfg .macHash14 v)
  | .rdMacHash15 => some (readReg cfg .macHash15)
  | .wrMacHash15 v => some (writeReg cfg .macHash15 v)
  | .rdMacPatmps => some (readReg cfg .macPatmps)
  | .wrMacPatmps v => some (writeReg cfg .macPatmps v)
  | .rdMacSmachine => some (readReg cfg .macSmachine)
  | .wrMacSmachine v => some (writeReg cfg .macSmachine v)
  | .rdMifFrame => some (readReg cfg .mifFrame)
  | .wrMifFrame v => some (writeReg cfg .mifFrame v)
  | .rdMifCfg => some (readReg cfg .mifCfg)
  | .wrMifCfg v => some (writeReg cfg .mifCfg v)
  | .rdMifStatus => some (readReg cfg .mifStatus)
  | .wrMifStatus v => some (writeReg cfg .mifStatus v)
  | .rdMifSmachine => some (readReg cfg .mifSmachine)
  | .wrMifSmachine v => some (writeReg cfg .mifSmachine v)
  | .rdPcsMiistat => some (readReg cfg .pcsMiistat)
  | .wrPcsMiistat v => some (writeReg cfg .pcsMiistat v)
  | .rdPcsIstat => some (readReg cfg .pcsIstat)
  | .wrPcsIstat v => some (writeReg cfg .pcsIstat v)
  | .rdPcsSstate => some (readReg cfg .pcsSstate)
  | .wrPcsSstate v => some (writeReg cfg .pcsSstate v)
  | .rdPlainWord off => some (readRequest off)
  | .wrPlainWord off v => some (writeRequest off v)
  | .rdWolWord off => some (readRequest off)
  | .wrWolWord off v => some (writeRequest off v)
  | .rdUnmapped off => some (readRequest off)
  | .wrUnmapped off v => some (writeRequest off v)
  | .swrstAll v => some (.port .swrst, toLE 4 v)
  | .swrstRx v => some (.port .swrst, toLE 4 v)
  | .swrstTx v => some (.port .swrst, toLE 4 v)
  | .swrstNone v => some (.port .swrst, toLE 4 v)
  | .mifWrite v => some (.port .mif, toLE 4 v)
  | .mifRead v => some (.port .mif, toLE 4 v)
  | .mifBadOp0 v => some (.port .mif, toLE 4 v)
  | .mifBadOp3 v => some (.port .mif, toLE 4 v)
  | .mifBadTag0 v => some (.port .mif, toLE 4 v)
  | .mifBadTag2 v => some (.port .mif, toLE 4 v)
  | .mifBadTag3 v => some (.port .mif, toLE 4 v)
  | .phyreg0Control v => some (.port .phySelect, toLE 4 v)
  | .phyreg1Status v => some (.port .phySelect, toLE 4 v)
  | .phyreg2IdentifierHigh v => some (.port .phySelect, toLE 4 v)
  | .phyreg3IdentifierLow v => some (.port .phySelect, toLE 4 v)
  | .phyreg4Advertisement v => some (.port .phySelect, toLE 4 v)
  | .phyreg5LinkPartner v => some (.port .phySelect, toLE 4 v)
  | .phyreg24Auxiliary v => some (.port .phySelect, toLE 4 v)
  | .phyregOther v => some (.port .phySelect, toLE 4 v)
  | .txd ctl buf => some (.txDescriptor, descBytesOf cfg.descOrder ctl buf)
  | .rxdPosted status buf => some (.rxPosted, descBytesOf cfg.descOrder status buf)
  | .rxdStatus status buf => some (.rxStatus, descBytesOf cfg.descOrder status buf)
  | .canAccept => some (.port .canAccept, [])
  | .deliver frame => some (.port .deliver, frame)
  | .busReset => some (.port .busReset, [])
  | .setLink up => some (.port .setLink, [if up then 1#8 else 0#8])
  | .kick => none
  | .evaluate => none
  | .cascade => none
  | .ack _ => none
  | .setStatus _ _ => none
  | .miiOp _ => none
  | .classify _ _ => none
  | .resetRx => none
  | .resetTx => none
  | .resetAll _ => none

/-! ## The words of the opcode table

The table gives a bus command only its offset bits and no direction, and words of different formats
overlap; which format a word is read in is the model's choice (log entry 2). -/

/-- The source and the bytes of an instruction whose table bits are `w`: up to 8 bits, a software-reset
word; up to 24, the offset of a bus command, which without a data word is a read; up to 32, a data word
(of GREG_SWRST when bits 31:3 are clear, a management read of a listed transceiver register, else any
other management frame); more, a transmit control word with buffer word 0. -/
def tableSource (cfg : Cfg) (nbits w : Nat) : Source × List Byte :=
  if nbits ≤ 8 then (.port .swrst, toLE 4 (BitVec.ofNat 32 w))
  else if nbits ≤ 24 then readRequest (BitVec.ofNat 32 w)
  else if nbits ≤ 32 then
    let v := BitVec.ofNat 32 w
    if w < 8 then (.port .swrst, toLE 4 v)
    else if mifKind cfg v = .read ∧ mifReg cfg v ∈ listedPhyRegs then (.port .phySelect, toLE 4 v)
    else (.port .mif, toLE 4 v)
  else (.txDescriptor, descBytesOf cfg.descOrder (BitVec.ofNat 64 w) 0#64)

/-- The instruction the decoder reads from an instruction whose table bits are `w`. -/
def decodeTableWord (nbits w : Nat) : Option Instr :=
  let sb := tableSource defaultCfg nbits w
  match decode defaultCfg sb.1 sb.2 with
  | .ok i => some i
  | .error _ => none

/-! ## The pseudo-operations of the script notation (R119) -/

/-- The word `MIFRD <phy>, <reg>` writes to MIF_FRAME. -/
def mifReadWord (phy reg : BitVec 5) : Word :=
  (1#32 <<< 30) ||| (2#32 <<< 28) ||| (phy.setWidth 32 <<< 23) ||| (reg.setWidth 32 <<< 18)
    ||| (2#32 <<< 16)

/-- The word `MIFWR <phy>, <reg>, <data>` writes to MIF_FRAME. -/
def mifWriteWord (phy reg : BitVec 5) (data : Half) : Word :=
  (1#32 <<< 30) ||| (1#32 <<< 28) ||| (phy.setWidth 32 <<< 23) ||| (reg.setWidth 32 <<< 18)
    ||| (2#32 <<< 16) ||| data.setWidth 32

/-- The 16 bytes `TXD <slot>, <flags>, len=<n>, buf=<addr>, S=<s>, O=<o>` places in a slot. -/
def txdScript (cfg : Cfg) (flags : DWord) (len s o : Nat) (buf : Addr) : List Byte :=
  descBytesOf cfg.descOrder
    (put cfg.txdBufsz (BitVec.ofNat 64 len) ||| put cfg.txdCstart (BitVec.ofNat 64 s)
      ||| put cfg.txdCoff (BitVec.ofNat 64 o) ||| flags) buf

/-- The 16 bytes `RXD <slot>, buf=<addr>` places in a slot. -/
def rxdScript (cfg : Cfg) (buf : Addr) : List Byte := descBytesOf cfg.descOrder 0#64 buf

end Sys2Proof
end

