-- ==== Sys2Proof/Machine/ResetValues.lean ====
section
/-! DEFINITION. The values after power-on (10_state.md R64, column "reset" of table T2; 70 R346). -/
namespace Sys2Proof.Machine

/-- The value of a named register after power-on. -/
def resetReg (cfg : Cfg) : Reg → Word
  | .gregImask => cfg.resetImask
  | .txdmaCfg => cfg.resetTxdmaCfg
  | .txdmaFsz => cfg.resetTxdmaFsz
  | .rxdmaCfg => cfg.resetRxdmaCfg
  | .rxdmaFsz => cfg.resetRxdmaFsz
  | .macAddr0 => macWord0 cfg.macAddr
  | .macAddr1 => macWord1 cfg.macAddr
  | .macAddr2 => macWord2 cfg.macAddr
  | .mifCfg => cfg.resetMifCfg
  | _ => 0#32

/-- The named registers after power-on. -/
def resetRegs (cfg : Cfg) : Vector Word Reg.count := Reg.table (resetReg cfg)

/-- The value of `link_up` at power-on. DESIGN CHOICE (log entry 4): the specification leaves it to the
environment (R61, R66). Unsafe. -/
def resetLinkUp : Bool := false

/-- What a byte of guest memory that nothing has written reads as. DESIGN CHOICE (log entry 3): the
contents of guest memory are the environment's (R66). Unsafe. -/
def unwrittenByte : Byte := 0#8

end Sys2Proof.Machine
end

