-- ==== Sys2Proof/Machine/State.lean ====
section
/-! DEFINITION. The state of the machine as plain data (10_state.md R30), the outputs and results of an
operation (00_scope.md R23), and the state right after reset (R64). -/
namespace Sys2Proof.Machine

/-- No operation of the block faults (60_exceptions.md R305, R325: "every operation of the block always
yields a next state"), so there is no reason for a fault. Safe: no run ends in one. -/
inductive Fault where
  deriving DecidableEq, Repr

/-- Why a step has no meaning. Each is raised at the boundary of the block, before anything changes. -/
inductive Refusal where
  /-- An instruction without a meaning yet; raised by an arm of `exec`. Safe: the run stops. -/
  | notModelled (mnemonic : String)
  /-- Event E12 (R86, R302): a bus access that is not four aligned bytes of the register space; raised
  by `step`. Safe: the specification gives it no meaning and the access never reaches the block. -/
  | busRefused (offset size : Nat)
  /-- A request whose bytes are not of the form its port has (log entry 1); raised by `step`. Safe: no
  agent of R322 can present it. -/
  | malformedRequest
  /-- An ill-formed configuration (R10, 93 U16); raised by `construct`. Safe: nothing is built. -/
  | illFormedConfiguration
  deriving DecidableEq, Repr

/-- The result of classifying a destination address (R269). -/
inductive AddrMatch where
  | noMatch | promiscuous | broadcast | allMulticast | hashMulticast | primaryUnicast | altUnicast
  deriving DecidableEq, Repr

/-- The events E1 to E11 with their information (R302). E12 is a refusal. -/
inductive LogRecord where
  /-- E1, by a bus read. -/
  | decodeFailureRead (off : Word)
  /-- E1, by a bus write. -/
  | decodeFailureWrite (off v : Word)
  /-- E2. -/
  | txDisabled
  /-- E3: the accumulated length discarded. -/
  | txUnfinishedFrame (discarded : Nat)
  /-- E4: the requested and the clamped length. -/
  | txOverflow (requested clamped : Nat)
  /-- E5: `S`, `O`, `tx_len`. -/
  | txChecksumOutOfBounds (start off len : Nat)
  /-- E6. -/
  | rxDisabled
  /-- E7: the length of the frame. -/
  | rxBadSize (len : Nat)
  /-- E8. -/
  | rxUnmatched
  /-- E9. -/
  | rxRingFull
  /-- E10: the tag. -/
  | miiInvalidStart (tag : Word)
  /-- E11: the opcode. -/
  | miiInvalidOp (op : Word)
  deriving DecidableEq, Repr

/-- An output of an operation (R14, R23) or a DMA access it makes (R88, R94). -/
inductive Event where
  /-- `Send(f)` (R76). -/
  | send (frame : List Byte)
  /-- `Loopback(f)` (R243). -/
  | loopback (frame : List Byte)
  /-- The interrupt line changed to this level (R79). -/
  | irq (level : Bool)
  /-- `MemRead(addr, len)` (R13). -/
  | dmaRead (addr : Addr) (len : Nat)
  /-- `MemWrite(addr, n, bytes)` (R13). -/
  | dmaWrite (addr : Addr) (bytes : List Byte)
  /-- `raise` (R14). -/
  | log (record : LogRecord)
  deriving DecidableEq, Repr

/-- What the operation last run returned to its caller (R23). -/
inductive Result where
  | none
  /-- The word of a bus read (R140) or of `MiiOp` (R211). -/
  | word (v : Word)
  /-- The answer of `CanAccept` (R261). -/
  | flag (b : Bool)
  /-- The bytes consumed by `Deliver` (R260). -/
  | count (n : Nat)
  /-- The buffer address a posted receive descriptor gives (R280). -/
  | address (a : Addr)
  /-- The result of `Classify` (R270). -/
  | addrMatch (m : AddrMatch)
  deriving DecidableEq, Repr

/-- What the environment presents next (R93, R322): an operation on a port, or a store of the guest to
its own memory. -/
inductive Request where
  | op (port : Port) (bytes : List Byte)
  | guestStore (addr : Addr) (bytes : List Byte)
  deriving DecidableEq, Repr

/-- Guest physical memory (R71): the bytes that differ from `unwrittenByte`, by address. -/
abbrev Memory := List Host.Cell

/-- The state of the machine (R30) with what a step reads and writes outside the block. -/
structure State where
  /-- The configuration, fixed for the machine (R9). -/
  cfg : Cfg
  /-- The named registers (R33, table T2), in the order of `Reg.all`. -/
  regs : Vector Word Reg.count
  /-- The unnamed words of the banks, by byte offset (R33, R145). -/
  words : List (Nat × Word)
  /-- `tx_acc`, its length being `tx_len` (R56). -/
  txAcc : List Byte
  /-- `tx_first_ctl` (R58). -/
  txFirstCtl : DWord
  /-- The interrupt output level (R60). -/
  irq : Bool
  /-- The link-state input flag, owned by the environment (R61). -/
  linkUp : Bool
  /-- Guest physical memory. -/
  mem : Memory
  /-- The model's own: what the environment presents, oldest first. -/
  requests : List Request
  /-- The model's own: what the operation last run returned. -/
  result : Result
  /-- The model's own: every output so far, oldest first. -/
  trace : List Event
  deriving DecidableEq, Repr

/-- The machine right after reset (R64, R346): no request presented, nothing output. -/
def State.reset : State where
  cfg := defaultCfg
  regs := resetRegs defaultCfg
  words := []
  txAcc := []
  txFirstCtl := 0#64
  irq := false
  linkUp := resetLinkUp
  mem := []
  requests := []
  result := .none
  trace := []

end Sys2Proof.Machine
end

