-- ==== Sys2Proof/Machine/Flags.lean ====
section
/-! DEFINITION. The flag computations (10_state.md R40 to R47, 41_interrupt_aggregator.md): functions of
status and mask words. -/
namespace Sys2Proof.Machine

/-- The bits of a status word that drive the line: status without the completion-counter field, and not
masked (R191). -/
def pendingBits (cfg : Cfg) (stat imask : Word) : Word := stat &&& ~~~ cfg.statTxnr &&& ~~~ imask

/-- The level of the interrupt output for a status and a mask word (R60, R191). -/
def irqLevel (cfg : Cfg) (stat imask : Word) : Bool := pendingBits cfg stat imask != 0#32

/-- Set or clear bits of a status word (R200). -/
def withBits (stat bits : Word) (on : Bool) : Word := if on then stat ||| bits else stat &&& ~~~ bits

/-- What a read of GREG_STAT or GREG_STAT2 returns: the status with the completion-counter field supplied
from the transmit completion cursor (R146, R148). -/
def statusView (cfg : Cfg) (stat txdone : Word) : Word :=
  (stat &&& ~~~ cfg.statTxnr) ||| ((txdone <<< cfg.statTxnrShift) &&& cfg.statTxnr)

/-- Some status bit is set and not masked: the condition of an aggregate bit (R193, R194). -/
def subPending (status mask : Word) : Bool := status &&& ~~~ mask != 0#32

end Sys2Proof.Machine
end

