-- ==== Sys2Proof/Machine/Sparse.lean ====
section
/-! DEFINITION. A sparse store: a list of (key, value) pairs in one canonical form, keys strictly rising
and no entry equal to what an unlisted key reads as. Guest memory (R71) and the unnamed words of the
register file (R33) are kept this way. The laws of `sparseGet` and `sparseSet` hold of every list; the
canonical form makes equal contents equal lists. -/
namespace Sys2Proof.Machine

/-- What the store holds at a key; `d` where it lists none. -/
def sparseGet {α : Type} (d : α) : List (Nat × α) → Nat → α
  | [], _ => d
  | (k', v) :: m, k => if k' = k then v else sparseGet d m k

/-- The store without a key. -/
def sparseErase {α : Type} (k : Nat) (m : List (Nat × α)) : List (Nat × α) :=
  m.filter fun e => e.1 != k

/-- An entry put before the first entry of a greater key. -/
def sparseInsert {α : Type} (k : Nat) (v : α) : List (Nat × α) → List (Nat × α)
  | [] => [(k, v)]
  | e :: m => if k < e.1 then (k, v) :: e :: m else e :: sparseInsert k v m

/-- The store with the value at a key; a value equal to `d` is kept by listing nothing. -/
def sparseSet {α : Type} [DecidableEq α] (d : α) (k : Nat) (v : α) (m : List (Nat × α)) :
    List (Nat × α) :=
  if v = d then sparseErase k m else sparseInsert k v (sparseErase k m)

/-- Every key of the list is greater than `k`. -/
def keysAbove {α : Type} (k : Nat) (m : List (Nat × α)) : Bool := m.all fun e => k < e.1

/-- The canonical form: keys strictly rising and below `bound`, no value equal to `d`. -/
def sparseWf {α : Type} [DecidableEq α] (d : α) (bound : Nat) : List (Nat × α) → Bool
  | [] => true
  | e :: m => keysAbove e.1 m && (decide (e.1 < bound) && !decide (e.2 = d)) && sparseWf d bound m

end Sys2Proof.Machine
end

