-- ==== Sys2Proof/Machine/Memory.lean ====
section
/-! DEFINITION. Guest physical memory, byte granular, 64-bit addresses that wrap (00_scope.md R13, R18;
20_memory.md R71, R75). No address is refused (log entry 7). -/
namespace Sys2Proof.Machine

/-- The memory is in canonical form. -/
def Memory.wf (m : Memory) : Bool := sparseWf unwrittenByte (2 ^ 64) m

/-- The byte at an address. -/
def readByte (m : Memory) (a : Addr) : Byte := sparseGet unwrittenByte m a.toNat

/-- The memory with a byte stored. -/
def writeByte (m : Memory) (a : Addr) (b : Byte) : Memory := sparseSet unwrittenByte a.toNat b m

/-- `MemRead(addr, n)`: the bytes from an address on, lowest address first (R13). -/
def readBytes (m : Memory) : Addr → Nat → List Byte
  | _, 0 => []
  | a, n + 1 => readByte m a :: readBytes m (a + 1#64) n

/-- `MemWrite(addr, n, v)`: the bytes stored one after the other, lowest address first (R13). -/
def writeBytes (m : Memory) : Addr → List Byte → Memory
  | _, [] => m
  | a, b :: bs => writeBytes (writeByte m a b) (a + 1#64) bs

end Sys2Proof.Machine
end

