-- ==== Sys2Proof/Machine/Ops.lean ====
section
/-! DEFINITION. The named operations over registers, memory and outputs, and the interrupt aggregator:
raising the line is this block's form of taking an exception, lowering it the form of the return
(60_exceptions.md R312, R313). -/
namespace Sys2Proof.Machine

/-! ## Updates of one piece of state

Every operation is built from these; `Sys2Proof.Laws.State` says what each leaves alone. -/

/-- `x[NAME] <- v` (R12). -/
def setReg (s : State) (r : Reg) (v : Word) : State :=
  { s with regs := s.regs.set r.idx.val v r.idx.isLt }

/-- `x[a] <- v` for an unnamed word, by its byte offset (R12). -/
def setWord (s : State) (a : Nat) (v : Word) : State :=
  { s with words := sparseSet 0#32 a v s.words }

/-- The accumulator replaced (R56). -/
def setTxAcc (s : State) (acc : List Byte) : State := { s with txAcc := acc }

/-- The first control word replaced (R58). -/
def setTxFirst (s : State) (ctl : DWord) : State := { s with txFirstCtl := ctl }

/-- The level of the interrupt output replaced (R60). -/
def setIrq (s : State) (b : Bool) : State := { s with irq := b }

/-- The link flag replaced (R61). -/
def setLinkUp (s : State) (b : Bool) : State := { s with linkUp := b }

/-- Guest memory replaced (R71). -/
def setMem (s : State) (m : Memory) : State := { s with mem := m }

/-- The requests still to come replaced. -/
def setRequests (s : State) (q : List Request) : State := { s with requests := q }

/-- The result replaced (R23). -/
def setResult (s : State) (r : Result) : State := { s with result := r }

/-- An output of the operation (R23). -/
def emit (s : State) (e : Event) : State := { s with trace := s.trace ++ [e] }

/-! ## Registers (R12) -/

/-- `x[NAME]`. -/
def getReg (s : State) (r : Reg) : Word := s.regs.get r.idx

/-- `x[a]` for an unnamed word, by its byte offset. -/
def getWord (s : State) (a : Nat) : Word := sparseGet 0#32 s.words a

/-- The unnamed words are in canonical form. -/
def wordsWf (words : List (Nat × Word)) : Bool := sparseWf 0#32 (2 ^ 32) words

/-! ## Outputs and results (R14, R23) -/

/-- `raise <Event>(info)` (R14). -/
def raise (s : State) (r : LogRecord) : State := emit s (.log r)

/-- `irq <- b`; the trace shows a change of level (R14, R192). -/
def driveIrq (s : State) (b : Bool) : State :=
  if s.irq = b then s else emit (setIrq s b) (.irq b)

/-- The operation ends and returns a value to its caller. -/
def returning (s : State) (r : Result) : Host.Outcome State Fault Refusal :=
  .next (setResult s r)

/-- The operation ends and returns nothing. -/
def done (s : State) : Host.Outcome State Fault Refusal := returning s .none

/-! ## DMA (R13, R75, R88) -/

/-- `MemRead(addr, n)`; a length of 0 makes no access. -/
def dmaRead (s : State) (a : Addr) (n : Nat) : List Byte × State :=
  (readBytes s.mem a n, if n = 0 then s else emit s (.dmaRead a n))

/-- `MemWrite(addr, |v|, v)`; a length of 0 makes no access. -/
def dmaWrite (s : State) (a : Addr) (v : List Byte) : State :=
  if v = [] then s else emit (setMem s (writeBytes s.mem a v)) (.dmaWrite a v)

/-! ## The rings (R17, R18, R59) -/

/-- `tx_mask`. -/
def txMask (s : State) : Word := ringMask s.cfg (getReg s .txdmaCfg)

/-- `rx_mask`. -/
def rxMask (s : State) : Word := ringMask s.cfg (getReg s .rxdmaCfg)

/-- The transmit ring base. -/
def txBase (s : State) : Addr := ringBase (getReg s .txdmaDbhi) (getReg s .txdmaDblow)

/-- The receive ring base. -/
def rxBase (s : State) : Addr := ringBase (getReg s .rxdmaDbhi) (getReg s .rxdmaDblow)

/-- The slot the transmit completion cursor `pc_tx` selects (R36). -/
def txCursor (s : State) : Word := getReg s .txdmaTxdone &&& txMask s

/-- The slot the receive done cursor `pc_rx` selects (R37). -/
def rxCursor (s : State) : Word := getReg s .rxdmaDone &&& rxMask s

/-! ## The interrupt aggregator (41_interrupt_aggregator.md) -/

/-- `Evaluate()` (R191). -/
def evaluate (s : State) : State :=
  driveIrq s (irqLevel s.cfg (getReg s .gregStat) (getReg s .gregImask))

/-- `SetStatus(bits, on)` (R200): the only way a bit of GREG_STAT is set. -/
def setStatus (s : State) (bits : Word) (on : Bool) : State :=
  evaluate (setReg s .gregStat (withBits (getReg s .gregStat) bits on))

/-- `Cascade()` (R192): the three aggregate bits in this order. -/
def cascade (s : State) : State :=
  let s1 := setStatus s s.cfg.statTxMac (subPending (getReg s .macTxstat) (getReg s .macTxmask))
  let s2 := setStatus s1 s.cfg.statRxMac (subPending (getReg s1 .macRxstat) (getReg s1 .macRxmask))
  setStatus s2 s.cfg.statMac
    (subPending (getReg s2 .macCstat &&& ~~~ s.cfg.cstatExcl) (getReg s2 .macMcmask))

/-- `Ack(v)` (R198). -/
def acknowledge (s : State) (v : Word) : State :=
  evaluate (setReg s .gregStat (getReg s .gregStat &&& ~~~ (v &&& s.cfg.statLatch)))

/-- What a status read returns (R146, R148). -/
def statusValue (s : State) : Word :=
  statusView s.cfg (getReg s .gregStat) (getReg s .txdmaTxdone)

/-- The effect of a status read: the latched bits are cleared and the line evaluated again (R146). -/
def clearLatched (s : State) : State :=
  evaluate (setReg s .gregStat (getReg s .gregStat &&& ~~~ s.cfg.statLatch))

/-- The effect of reading a sub-status register: it keeps the bits of `keep` and its aggregate bit is
cleared (R164 to R166). -/
def clearSubStatus (s : State) (r : Reg) (keep aggregate : Word) : State :=
  setStatus (setReg s r (getReg s r &&& keep)) aggregate false

end Sys2Proof.Machine
end

