-- ==== Sys2Proof/Machine/Phy.lean ====
section
/-! DEFINITION. The transceiver stub (42_transceiver_stub.md): stateless but for the link flag. -/
namespace Sys2Proof.Machine

/-- The value `PHY_TABLE` gives a register; 0 for an index it does not list (R216). -/
def phyTableValue (cfg : Cfg) (linkUp : Bool) (reg : Nat) : Half :=
  match cfg.phyTable.find? fun e => e.reg == reg with
  | some e => if linkUp then e.linkUp else e.linkDown
  | none => 0#16

/-- `PhyRead(phy, reg)` (R216); another bus address reads all ones (R218). -/
def phyRead (cfg : Cfg) (linkUp : Bool) (phy reg : Nat) : Half :=
  if phy = cfg.phyAddr.toNat then phyTableValue cfg linkUp reg else 0xFFFF#16

/-- The result word of a management read (R217). -/
def mifReadResult (s : State) (phy reg : Nat) : Word :=
  (phyRead s.cfg s.linkUp phy reg).setWidth 32 ||| s.cfg.mifAck

/-- The result word of a management write: the request echoed with the acknowledgement (R215). -/
def mifWriteResult (s : State) (v : Word) : Word := v ||| s.cfg.mifAck

/-- `MiiOp(v)` (R211): the result word, and the state with the event an invalid frame raises. -/
def miiOp (s : State) (v : Word) : Word × State :=
  if mifTag s.cfg v ≠ s.cfg.mifStValid then (allOnes, raise s (.miiInvalidStart (mifTag s.cfg v)))
  else if mifOpcode s.cfg v = mifOpWrite then (mifWriteResult s v, s)
  else if mifOpcode s.cfg v = mifOpRead then
    (mifReadResult s (mifPhy s.cfg v) (mifReg s.cfg v), s)
  else (allOnes, raise s (.miiInvalidOp (mifOpcode s.cfg v)))

/-- A word written to MIF_FRAME whose operation has the result `res`: the word is stored, then the
result replaces it (R177). -/
def storeFrame (s : State) (v res : Word) : State :=
  setReg (setReg s .mifFrame v) .mifFrame res

/-- The effect of a bus write to MIF_FRAME (R141, R177). -/
def writeMifFrame (s : State) (v : Word) : State :=
  let s1 := setReg s .mifFrame v
  let r := miiOp s1 v
  setReg r.2 .mifFrame r.1

end Sys2Proof.Machine
end

