-- ==== Sys2Proof/Machine/Receive.lean ====
section
/-! DEFINITION. The receive engine and the frame classifier (44_receive_engine.md R260 to R289). -/
namespace Sys2Proof.Machine

/-- `RxEnabled()` (R261). -/
def rxEnabled (s : State) : Bool :=
  anySet (getReg s .macRxcfg) s.cfg.macRxcfgEnab && anySet (getReg s .rxdmaCfg) s.cfg.dmacfgEnable

/-- `RxFull()` (R261). -/
def rxFull (s : State) : Bool := ringFull (rxMask s) (getReg s .rxdmaKick) (getReg s .rxdmaDone)

/-- `CanAccept()` (R261). -/
def canAccept (s : State) : Bool := rxEnabled s && !rxFull s

/-- The register that holds the hash-table entries `16 n` to `16 n + 15` (R54). -/
def hashReg : Nat → Reg
  | 0 => .macHash0
  | 1 => .macHash1
  | 2 => .macHash2
  | 3 => .macHash3
  | 4 => .macHash4
  | 5 => .macHash5
  | 6 => .macHash6
  | 7 => .macHash7
  | 8 => .macHash8
  | 9 => .macHash9
  | 10 => .macHash10
  | 11 => .macHash11
  | 12 => .macHash12
  | 13 => .macHash13
  | 14 => .macHash14
  | _ => .macHash15

/-- Entry `h` of the hash table is set (R54, R275). -/
def hashEntry (s : State) (h : Nat) : Bool := (getReg s (hashReg (h / 16))).getLsbD (15 - h % 16)

/-- The key of the hash lookup: the top 8 bits of the address check (R275). -/
def hashKey (crc : Word) : Nat := (crc >>> 24).toNat

/-- The destination equals the address in three station-address registers, all 32 bits (R276). -/
def stationMatch (s : State) (a : MacAddr) (r0 r1 r2 : Reg) : Bool :=
  macWord0 a == getReg s r0 && macWord1 a == getReg s r1 && macWord2 a == getReg s r2

/-- The destination is the broadcast address (R272). -/
def isBroadcast (a : MacAddr) : Bool := (macBytes a).all fun b => b == 0xFF#8

/-- The destination is a group address: bit 0 of the first byte (R273). -/
def isGroup (a : MacAddr) : Bool := a.b0.getLsbD 0

/-- `Classify(a, crc)` (R270). -/
def classify (s : State) (a : MacAddr) (crc : Word) : AddrMatch :=
  let rxcfg := getReg s .macRxcfg
  if anySet rxcfg s.cfg.macRxcfgProm then .promiscuous
  else if isBroadcast a then .broadcast
  else if isGroup a then
    if anySet rxcfg s.cfg.macRxcfgPgrp then .allMulticast
    else if (!s.cfg.hashGated || anySet rxcfg s.cfg.macRxcfgHfe) && hashEntry s (hashKey crc) then
      .hashMulticast
    else .noMatch
  else if stationMatch s a .macAddr0 .macAddr1 .macAddr2 then .primaryUnicast
  else if stationMatch s a .macAddr3 .macAddr4 .macAddr5 then .altUnicast
  else .noMatch

/-- The configured maximum frame size (R52, R265). -/
def maxFrame (s : State) : Nat := (getReg s .macMaxfsz &&& s.cfg.maxFszMask).toNat

/-- The size check of `Deliver`, on the length before padding (R266). -/
def sizeRejected (s : State) (len : Nat) : Bool :=
  decide (len < s.cfg.rxMinLen) || decide (len + s.cfg.trailer > maxFrame s)

/-- The address check of a (padded) frame (R268). -/
def frameCheck (cfg : Cfg) (g : List Byte) : Word := addressCheck cfg (g.take 6)

/-- The guest address of the slot the receive done cursor selects (R279). -/
def rxSlotAddr (s : State) : Addr := slotAddr (rxBase s) (rxCursor s)

/-- The buffer address a posted descriptor gives (R108, R280). -/
def postedAddr (s : State) (buf : DWord) : Addr :=
  rxBufferAddr s.cfg (getReg s .rxdmaCfg) buf

/-- The status bits a stored frame sets, with the cursor already advanced (R284). -/
def rxCompletionBits (s : State) : Word :=
  if rxFull s then s.cfg.statRxDone ||| s.cfg.statRxNoBuf else s.cfg.statRxDone

/-- Write the descriptor of the current slot back, advance `pc_rx`, report (R283, R284). -/
def rxWriteBack (s : State) (status buf : DWord) : State :=
  let s1 := dmaWrite s (rxSlotAddr s) (descBytesOf s.cfg.descOrder status buf)
  let s2 := setReg s1 .rxdmaDone (advance (rxMask s) (rxCursor s))
  setStatus s2 (rxCompletionBits s2) true

/-- The status word of a stored frame (R262, R269, R282). -/
def frameStatus (s : State) (g : List Byte) (m : AddrMatch) : DWord :=
  rxStatusWord s.cfg (rxChecksum s.cfg (getReg s .rxdmaCfg) g) g.length (frameCheck s.cfg g)
    (m == .hashMulticast) (m == .altUnicast)

/-- The storing half of `Deliver`: descriptor read, payload write, write-back (R279 to R284). -/
def rxStore (s : State) (g : List Byte) (m : AddrMatch) : State :=
  let r := dmaRead s (rxSlotAddr s) descBytes
  let buf := descWord1 s.cfg.descOrder r.1
  let s1 := dmaWrite r.2 (postedAddr s buf) g
  rxWriteBack s1 (frameStatus s g m) buf

/-- `Deliver(f)` (R262): the bytes consumed and the state. -/
def deliver (s : State) (f : List Byte) : Nat × State :=
  let len := f.length
  if rxEnabled s then
    if sizeRejected s len then (len, raise s (.rxBadSize len))
    else
      let g := padFrame f
      let m := classify s (macOfBytes g) (frameCheck s.cfg g)
      if m = .noMatch then (len, raise s .rxUnmatched)
      else if rxFull s then (0, raise s .rxRingFull)
      else (len, rxStore s g m)
  else (len, raise s .rxDisabled)

end Sys2Proof.Machine
end

