-- ==== Sys2Proof/Machine/Reset.lean ====
section
/-! DEFINITION. The reset procedures and construction (70_reset_and_hazards.md). The ring masks are
functions of the configuration words, so "recompute" needs no line of its own (R59). -/
namespace Sys2Proof.Machine

/-- `ResetRx()` (R341). -/
def resetRx (s : State) : State :=
  let s1 := setReg s .rxdmaFsz s.cfg.resetRxdmaFsz
  let s2 := setReg s1 .rxdmaDone 0#32
  let s3 := setReg s2 .rxdmaKick 0#32
  setReg s3 .rxdmaCfg s.cfg.resetRxdmaCfg

/-- `ResetTx()` (R342). -/
def resetTx (s : State) : State :=
  let s1 := setReg s .txdmaFsz s.cfg.resetTxdmaFsz
  let s2 := setReg s1 .txdmaTxdone 0#32
  let s3 := setReg s2 .txdmaKick 0#32
  let s4 := setReg s3 .txdmaCfg s.cfg.resetTxdmaCfg
  setTxFirst (setTxAcc s4 []) 0#64

/-- The primary station address registers reprogrammed from `MACADDR` (R53, R343). -/
def loadStationAddress (s : State) : State :=
  let s1 := setReg s .macAddr0 (macWord0 s.cfg.macAddr)
  let s2 := setReg s1 .macAddr1 (macWord1 s.cfg.macAddr)
  setReg s2 .macAddr2 (macWord2 s.cfg.macAddr)

/-- `ResetAll(is_bus_reset)` (R343). -/
def resetAll (s : State) (isBusReset : Bool) : State :=
  let s1 := resetTx (resetRx s)
  let s2 := setReg s1 .gregImask s.cfg.resetImask
  let s3 := setReg s2 .gregStat 0#32
  let s4 :=
    if isBusReset then loadStationAddress (setReg s3 .gregSwrst 0#32)
    else setReg s3 .gregSwrst (getReg s3 .gregSwrst &&& s.cfg.swrstRstout)
  evaluate (setReg s4 .mifCfg s.cfg.resetMifCfg)

/-- `SoftReset(v)` (R154). -/
def softReset (s : State) (v : Word) : State :=
  match swrstKind s.cfg v with
  | .all => resetAll s false
  | .rx => resetRx s
  | .tx => resetTx s
  | .none => s

/-- Every word 0, no frame in assembly, the line low (R64): the state before construction resets it. -/
def zeroed (cfg : Cfg) (linkUp : Bool) (mem : Memory) : State where
  cfg := cfg
  regs := Vector.replicate Reg.count 0#32
  words := []
  txAcc := []
  txFirstCtl := 0#64
  irq := false
  linkUp := linkUp
  mem := mem
  requests := []
  result := .none
  trace := []

/-- Construction (R10, R64, R346): an ill-formed configuration is refused; else every word is 0 and
`ResetAll(true)` runs. -/
def construct (cfg : Cfg) (linkUp : Bool) (mem : Memory) : Host.Outcome State Fault Refusal :=
  if cfg.wellFormed then .next (resetAll (zeroed cfg linkUp mem) true)
  else .refused .illFormedConfiguration

end Sys2Proof.Machine
end

