-- ==== Sys2Proof/Machine/Transmit.lean ====
section
/-! DEFINITION. The transmit engine (43_transmit_engine.md R230 to R252). -/
namespace Sys2Proof.Machine

/-- Both transmit enables are set (R231). -/
def txEnabled (s : State) : Bool :=
  anySet (getReg s .txdmaCfg) s.cfg.dmacfgEnable && anySet (getReg s .macTxcfg) s.cfg.macTxcfgEnab

/-- The start-of-frame part of `ProcessTxDesc` (R237). -/
def beginFrame (s : State) (ctl : DWord) : State :=
  if anySet ctl s.cfg.txdSof then
    let s1 := if s.txAcc.length ≠ 0 then raise s (.txUnfinishedFrame s.txAcc.length) else s
    setTxFirst (setTxAcc s1 []) ctl
  else s

/-- The copy length of a descriptor: its length field, clamped to the room left (R238). -/
def copyLength (s : State) (ctl : DWord) : Nat :=
  min (txdLen s.cfg ctl) (s.cfg.txAccMax - s.txAcc.length)

/-- The payload part of `ProcessTxDesc`: clamp, read, append (R238, R239). -/
def appendPayload (s : State) (ctl : DWord) (buf : Addr) : State :=
  let len := txdLen s.cfg ctl
  let n := copyLength s ctl
  let s1 := if s.txAcc.length + len > s.cfg.txAccMax then raise s (.txOverflow len n) else s
  let r := dmaRead s1 buf n
  setTxAcc r.2 (r.2.txAcc ++ r.1)

/-- The insertion of `TxChecksum` lies inside the frame (R244). -/
def txChecksumFits (len start off : Nat) : Bool :=
  !(decide (len < 2) || decide (start > len - 2) || decide (off > len - 2))

/-- The frame with its checksum over the bytes from `start` stored at `off`, high byte first (R240). -/
def insertChecksum (cfg : Cfg) (frame : List Byte) (start off : Nat) : List Byte :=
  let c := be16 (checksum cfg (frame.drop start))
  (frame.set off c.1).set (off + 1) c.2

/-- `TxChecksum()` (R236, R244). -/
def txChecksum (s : State) : State :=
  let start := txdCsumStart s.cfg s.txFirstCtl
  let off := txdCsumOff s.cfg s.txFirstCtl
  if txChecksumFits s.txAcc.length start off then
    setTxAcc s (insertChecksum s.cfg s.txAcc start off)
  else raise s (.txChecksumOutOfBounds start off s.txAcc.length)

/-- A finished frame leaves the block: looped back or sent (R243). -/
def handOn (s : State) (frame : List Byte) : State :=
  if anySet (getReg s .macXifcfg) s.cfg.macXifcfgLbck then emit s (.loopback frame)
  else emit s (.send frame)

/-- The end-of-frame part of `ProcessTxDesc` (R240, R241). -/
def endFrame (s : State) (ctl : DWord) : State :=
  if anySet ctl s.cfg.txdEof then
    let s1 := if anySet s.txFirstCtl s.cfg.txdCenab then txChecksum s else s
    setTxFirst (setTxAcc (handOn s1 s1.txAcc) []) 0#64
  else s

/-- `ProcessTxDesc(ctl, buf)` (R236). -/
def processTxDesc (s : State) (ctl : DWord) (buf : Addr) : State :=
  endFrame (appendPayload (beginFrame s ctl) ctl buf) ctl

/-- The status bits a processed descriptor sets (R246). -/
def completionBits (cfg : Cfg) (ctl : DWord) : Word :=
  if anySet ctl cfg.txdIntme then cfg.statTxDone ||| cfg.statTxIntme else cfg.statTxDone

/-- What the loop of `Kick()` does with one fetched descriptor of slot `comp`: process it, report it,
advance `pc_tx` (R236, R246, R247). -/
def txSlot (s : State) (mask comp : Word) (ctl : DWord) (buf : Addr) : State :=
  let s1 := processTxDesc s ctl buf
  let s2 := setStatus s1 (completionBits s.cfg ctl) true
  setReg s2 .txdmaTxdone (advance mask comp)

/-- Fetch the descriptor of slot `comp` and do it (R234, R236). -/
def txFetchSlot (s : State) (base : Addr) (mask comp : Word) : State :=
  let r := dmaRead s (slotAddr base comp) descBytes
  txSlot r.2 mask comp (descWord0 s.cfg.descOrder r.1) (descWord1 s.cfg.descOrder r.1)

/-- `while comp != kick` (R233), at most `fuel` times. -/
def txLoop (base : Addr) (mask kick : Word) : Nat → Word → State → State
  | 0, _, s => s
  | fuel + 1, comp, s =>
    if comp = kick then s
    else txLoop base mask kick fuel (advance mask comp) (txFetchSlot s base mask comp)

/-- `Kick()` (R236). The loop runs at most `tx_mask` times (R233). -/
def kick (s : State) : State :=
  if txEnabled s then
    let mask := txMask s
    let s1 := txLoop (txBase s) mask (getReg s .txdmaKick &&& mask) mask.toNat (txCursor s) s
    setStatus s1 s.cfg.statTxAll true
  else raise s .txDisabled

end Sys2Proof.Machine
end

