-- ==== Sys2Proof/Machine/BusAccess.lean ====
section
/-! DEFINITION. The bus operations as 40_register_access.md states them whole: `BusRead` (R140) and the
five stages of `BusWrite` (R141). The meaning of each bus row is given by itself in the `Bus*` files;
these are the terms in which statements say that the rows together are R140 and R141. -/
namespace Sys2Proof.Machine

/-- The bits of a register that a clearing read keeps: the excluded sub-field of MAC_CSTAT (R164 to
R166). -/
def keptOnRead (cfg : Cfg) : Reg → Word
  | .macCstat => cfg.cstatExcl
  | _ => 0#32

/-- The aggregate bit that a clearing read clears (R164 to R166); a register without one has none. -/
def aggregateOf (cfg : Cfg) : Reg → Word
  | .macTxstat => cfg.statTxMac
  | .macRxstat => cfg.statRxMac
  | .macCstat => cfg.statMac
  | _ => 0#32

/-- The state after the read of a register that has no rule of its own but `CLEAR_ON_READ` (R140, R164 to
R166; for the registers that table T2 does not put in that set, log entry 14). -/
def afterRead (s : State) (r : Reg) : State :=
  if r ∈ s.cfg.clearOnRead then clearSubStatus s r (keptOnRead s.cfg r) (aggregateOf s.cfg r) else s

/-- The read of a named register: the value and the state (R140, R146, R148, R164 to R166). -/
def busReadReg (s : State) (r : Reg) : Word × State :=
  match r with
  | .gregStat => (statusValue s, clearLatched s)
  | .gregStat2 => (statusValue s, s)
  | _ => (getReg s r, afterRead s r)

/-- Stage 3 of a bus write: the write masks (R141). -/
def maskWrite (cfg : Cfg) (r : Reg) (v : Word) : Word :=
  match r with
  | .mifCfg => (v &&& ~~~ cfg.mifCfgClear) ||| cfg.mifCfgSet
  | .gregPciemask => v &&& cfg.pcieMaskAnd
  | .macMinfsz => v &&& cfg.minFszAnd
  | _ => v

/-- Stage 5 of a bus write: the effect after the store (R141). -/
def afterStore (s : State) (r : Reg) (v : Word) : State :=
  match r with
  | .gregImask => evaluate s
  | .gregSwrst => softReset s v
  | .txdmaKick => kick s
  | .macTxmask => cascade s
  | .macRxmask => cascade s
  | .macMcmask => cascade s
  | .mifFrame => let m := miiOp s v; setReg m.2 .mifFrame m.1
  | _ => s

/-- Stage 1 of a bus write: a register of `RO_SET` is left as it is, else the write gives `t` (R141). -/
def unlessReadOnly (s : State) (r : Reg) (t : State) : State := if r ∈ s.cfg.roSet then s else t

/-- The write of a data word to a named register, stage by stage (R141). -/
def busWriteReg (s : State) (r : Reg) (v : Word) : State :=
  unlessReadOnly s r <|
    if r = .gregIack then acknowledge s v
    else
      let v' := maskWrite s.cfg r v
      afterStore (setReg s r v') r v'

/-- `BusRead(a)` (R140): the value and the state. -/
def busRead (s : State) (off : Word) : Word × State :=
  match placeOf s.cfg off.toNat with
  | .unmapped => (allOnes, raise s (.decodeFailureRead off))
  | .named r => busReadReg s r
  | .wol => (getWord s off.toNat, s)
  | .plain => (getWord s off.toNat, s)

/-- `BusWrite(a, v)` (R141). -/
def busWrite (s : State) (off v : Word) : State :=
  match placeOf s.cfg off.toNat with
  | .unmapped => raise s (.decodeFailureWrite off v)
  | .named r => busWriteReg s r v
  | .wol => setWord s off.toNat v
  | .plain => setWord s off.toNat v

/-! ## The forms the rows of the bus share -/

/-- A read that returns the stored word; it clears a register of `CLEAR_ON_READ` and nothing else (R140,
R164 to R166). -/
def readStored (s : State) (r : Reg) : Host.Outcome State Fault Refusal :=
  returning (afterRead s r) (.word (getReg s r))

/-- A write with the effect `t`, discarded if the register is one of `RO_SET` (R35, R141). -/
def writing (s : State) (r : Reg) (t : State) : Host.Outcome State Fault Refusal :=
  done (unlessReadOnly s r t)

/-- A write with no effect but the store, discarded if the register is one of `RO_SET` (R35, R141). -/
def storeOnly (s : State) (r : Reg) (v : Word) : Host.Outcome State Fault Refusal :=
  writing s r (setReg s r v)

/-- The store of a word written to GREG_SWRST, before the reset it requests (R48, R154). -/
def storeSwrst (s : State) (v : Word) : State := setReg s .gregSwrst v

end Sys2Proof.Machine
end

