-- ==== Sys2Proof/Machine/BusGlobal.lean ====
section
/-! DEFINITION. The bus reads and writes of the global bank (40_register_access.md R146 to R154), one definition per row. -/
namespace Sys2Proof.Machine

/-- `RD GREG_SEBSTATE` (R152). -/
def execRdGregSebstate (s : State) : Host.Outcome State Fault Refusal :=
  readStored s .gregSebstate

/-- `WR GREG_SEBSTATE` (R152). -/
def execWrGregSebstate (v : Word) (s : State) : Host.Outcome State Fault Refusal :=
  storeOnly s .gregSebstate v

/-- `RD GREG_STAT` (R146): the value before the latched bits are cleared. -/
def execRdGregStat (s : State) : Host.Outcome State Fault Refusal :=
  returning (clearLatched s) (.word (statusValue s))

/-- `WR GREG_STAT` (R147). -/
def execWrGregStat (v : Word) (s : State) : Host.Outcome State Fault Refusal :=
  storeOnly s .gregStat v

/-- `RD GREG_IMASK` (R150). -/
def execRdGregImask (s : State) : Host.Outcome State Fault Refusal := readStored s .gregImask

/-- `WR GREG_IMASK` (R150). -/
def execWrGregImask (v : Word) (s : State) : Host.Outcome State Fault Refusal :=
  writing s .gregImask (evaluate (setReg s .gregImask v))

/-- `RD GREG_IACK` (R151). -/
def execRdGregIack (s : State) : Host.Outcome State Fault Refusal := readStored s .gregIack

/-- `WR GREG_IACK` (R151): acknowledged, never stored. -/
def execWrGregIack (v : Word) (s : State) : Host.Outcome State Fault Refusal :=
  writing s .gregIack (acknowledge s v)

/-- `RD GREG_STAT2` (R148): the mirror, without side effect. -/
def execRdGregStat2 (s : State) : Host.Outcome State Fault Refusal :=
  returning s (.word (statusValue s))

/-- `WR GREG_STAT2` (R149). -/
def execWrGregStat2 (v : Word) (s : State) : Host.Outcome State Fault Refusal :=
  storeOnly s .gregStat2 v

/-- `RD GREG_PCIESTAT` (R152). -/
def execRdGregPciestat (s : State) : Host.Outcome State Fault Refusal :=
  readStored s .gregPciestat

/-- `WR GREG_PCIESTAT` (R152). -/
def execWrGregPciestat (v : Word) (s : State) : Host.Outcome State Fault Refusal :=
  storeOnly s .gregPciestat v

/-- `RD GREG_PCIEMASK` (R153). -/
def execRdGregPciemask (s : State) : Host.Outcome State Fault Refusal :=
  readStored s .gregPciemask

/-- `WR GREG_PCIEMASK` (R153). -/
def execWrGregPciemask (v : Word) (s : State) : Host.Outcome State Fault Refusal :=
  storeOnly s .gregPciemask (v &&& s.cfg.pcieMaskAnd)

/-- `RD GREG_SWRST` (R154). -/
def execRdGregSwrst (s : State) : Host.Outcome State Fault Refusal := readStored s .gregSwrst

/-- `WR GREG_SWRST` (R154). -/
def execWrGregSwrst (v : Word) (s : State) : Host.Outcome State Fault Refusal :=
  writing s .gregSwrst (softReset (storeSwrst s v) v)

end Sys2Proof.Machine
end

