-- ==== Sys2Proof/Machine/BusMac.lean ====
section
/-! DEFINITION. The bus reads and writes of the MAC bank (40_register_access.md R163 to R176), one definition per row. -/
namespace Sys2Proof.Machine

/-- `RD MAC_TXRST` (R163). -/
def execRdMacTxrst (s : State) : Host.Outcome State Fault Refusal := readStored s .macTxrst

/-- `WR MAC_TXRST` (R163). -/
def execWrMacTxrst (v : Word) (s : State) : Host.Outcome State Fault Refusal :=
  storeOnly s .macTxrst v

/-- `RD MAC_RXRST` (R163). -/
def execRdMacRxrst (s : State) : Host.Outcome State Fault Refusal := readStored s .macRxrst

/-- `WR MAC_RXRST` (R163). -/
def execWrMacRxrst (v : Word) (s : State) : Host.Outcome State Fault Refusal :=
  storeOnly s .macRxrst v

/-- `RD MAC_TXSTAT` (R164): by default a register of `CLEAR_ON_READ`. -/
def execRdMacTxstat (s : State) : Host.Outcome State Fault Refusal := readStored s .macTxstat

/-- `WR MAC_TXSTAT` (R167). -/
def execWrMacTxstat (v : Word) (s : State) : Host.Outcome State Fault Refusal :=
  storeOnly s .macTxstat v

/-- `RD MAC_RXSTAT` (R165): by default a register of `CLEAR_ON_READ`. -/
def execRdMacRxstat (s : State) : Host.Outcome State Fault Refusal := readStored s .macRxstat

/-- `WR MAC_RXSTAT` (R167). -/
def execWrMacRxstat (v : Word) (s : State) : Host.Outcome State Fault Refusal :=
  storeOnly s .macRxstat v

/-- `RD MAC_CSTAT` (R166): by default a register of `CLEAR_ON_READ`; the excluded sub-field survives. -/
def execRdMacCstat (s : State) : Host.Outcome State Fault Refusal := readStored s .macCstat

/-- `WR MAC_CSTAT` (R167). -/
def execWrMacCstat (v : Word) (s : State) : Host.Outcome State Fault Refusal :=
  storeOnly s .macCstat v

/-- `RD MAC_TXMASK` (R168). -/
def execRdMacTxmask (s : State) : Host.Outcome State Fault Refusal := readStored s .macTxmask

/-- `WR MAC_TXMASK` (R168). -/
def execWrMacTxmask (v : Word) (s : State) : Host.Outcome State Fault Refusal :=
  writing s .macTxmask (cascade (setReg s .macTxmask v))

/-- `RD MAC_RXMASK` (R168). -/
def execRdMacRxmask (s : State) : Host.Outcome State Fault Refusal := readStored s .macRxmask

/-- `WR MAC_RXMASK` (R168). -/
def execWrMacRxmask (v : Word) (s : State) : Host.Outcome State Fault Refusal :=
  writing s .macRxmask (cascade (setReg s .macRxmask v))

/-- `RD MAC_MCMASK` (R168). -/
def execRdMacMcmask (s : State) : Host.Outcome State Fault Refusal := readStored s .macMcmask

/-- `WR MAC_MCMASK` (R168). -/
def execWrMacMcmask (v : Word) (s : State) : Host.Outcome State Fault Refusal :=
  writing s .macMcmask (cascade (setReg s .macMcmask v))

/-- `RD MAC_TXCFG` (R169). -/
def execRdMacTxcfg (s : State) : Host.Outcome State Fault Refusal := readStored s .macTxcfg

/-- `WR MAC_TXCFG` (R169). -/
def execWrMacTxcfg (v : Word) (s : State) : Host.Outcome State Fault Refusal :=
  storeOnly s .macTxcfg v

/-- `RD MAC_RXCFG` (R170). -/
def execRdMacRxcfg (s : State) : Host.Outcome State Fault Refusal := readStored s .macRxcfg

/-- `WR MAC_RXCFG` (R170). -/
def execWrMacRxcfg (v : Word) (s : State) : Host.Outcome State Fault Refusal :=
  storeOnly s .macRxcfg v

/-- `RD MAC_XIFCFG` (R171). -/
def execRdMacXifcfg (s : State) : Host.Outcome State Fault Refusal := readStored s .macXifcfg

/-- `WR MAC_XIFCFG` (R171). -/
def execWrMacXifcfg (v : Word) (s : State) : Host.Outcome State Fault Refusal :=
  storeOnly s .macXifcfg v

/-- `RD MAC_MINFSZ` (R172). -/
def execRdMacMinfsz (s : State) : Host.Outcome State Fault Refusal := readStored s .macMinfsz

/-- `WR MAC_MINFSZ` (R172). -/
def execWrMacMinfsz (v : Word) (s : State) : Host.Outcome State Fault Refusal :=
  storeOnly s .macMinfsz (v &&& s.cfg.minFszAnd)

/-- `RD MAC_MAXFSZ` (R173). -/
def execRdMacMaxfsz (s : State) : Host.Outcome State Fault Refusal := readStored s .macMaxfsz

/-- `WR MAC_MAXFSZ` (R173). -/
def execWrMacMaxfsz (v : Word) (s : State) : Host.Outcome State Fault Refusal :=
  storeOnly s .macMaxfsz v

/-- `RD MAC_ADDR0` (R174). -/
def execRdMacAddr0 (s : State) : Host.Outcome State Fault Refusal := readStored s .macAddr0

/-- `WR MAC_ADDR0` (R174). -/
def execWrMacAddr0 (v : Word) (s : State) : Host.Outcome State Fault Refusal :=
  storeOnly s .macAddr0 v

/-- `RD MAC_ADDR1` (R174). -/
def execRdMacAddr1 (s : State) : Host.Outcome State Fault Refusal := readStored s .macAddr1

/-- `WR MAC_ADDR1` (R174). -/
def execWrMacAddr1 (v : Word) (s : State) : Host.Outcome State Fault Refusal :=
  storeOnly s .macAddr1 v

/-- `RD MAC_ADDR2` (R174). -/
def execRdMacAddr2 (s : State) : Host.Outcome State Fault Refusal := readStored s .macAddr2

/-- `WR MAC_ADDR2` (R174). -/
def execWrMacAddr2 (v : Word) (s : State) : Host.Outcome State Fault Refusal :=
  storeOnly s .macAddr2 v

/-- `RD MAC_ADDR3` (R174). -/
def execRdMacAddr3 (s : State) : Host.Outcome State Fault Refusal := readStored s .macAddr3

/-- `WR MAC_ADDR3` (R174). -/
def execWrMacAddr3 (v : Word) (s : State) : Host.Outcome State Fault Refusal :=
  storeOnly s .macAddr3 v

/-- `RD MAC_ADDR4` (R174). -/
def execRdMacAddr4 (s : State) : Host.Outcome State Fault Refusal := readStored s .macAddr4

/-- `WR MAC_ADDR4` (R174). -/
def execWrMacAddr4 (v : Word) (s : State) : Host.Outcome State Fault Refusal :=
  storeOnly s .macAddr4 v

/-- `RD MAC_ADDR5` (R174). -/
def execRdMacAddr5 (s : State) : Host.Outcome State Fault Refusal := readStored s .macAddr5

/-- `WR MAC_ADDR5` (R174). -/
def execWrMacAddr5 (v : Word) (s : State) : Host.Outcome State Fault Refusal :=
  storeOnly s .macAddr5 v

/-- `RD MAC_HASH0` (R175). -/
def execRdMacHash0 (s : State) : Host.Outcome State Fault Refusal := readStored s .macHash0

/-- `WR MAC_HASH0` (R175). -/
def execWrMacHash0 (v : Word) (s : State) : Host.Outcome State Fault Refusal :=
  storeOnly s .macHash0 v

/-- `RD MAC_HASH1` (R175). -/
def execRdMacHash1 (s : State) : Host.Outcome State Fault Refusal := readStored s .macHash1

/-- `WR MAC_HASH1` (R175). -/
def execWrMacHash1 (v : Word) (s : State) : Host.Outcome State Fault Refusal :=
  storeOnly s .macHash1 v

/-- `RD MAC_HASH2` (R175). -/
def execRdMacHash2 (s : State) : Host.Outcome State Fault Refusal := readStored s .macHash2

/-- `WR MAC_HASH2` (R175). -/
def execWrMacHash2 (v : Word) (s : State) : Host.Outcome State Fault Refusal :=
  storeOnly s .macHash2 v

/-- `RD MAC_HASH3` (R175). -/
def execRdMacHash3 (s : State) : Host.Outcome State Fault Refusal := readStored s .macHash3

/-- `WR MAC_HASH3` (R175). -/
def execWrMacHash3 (v : Word) (s : State) : Host.Outcome State Fault Refusal :=
  storeOnly s .macHash3 v

/-- `RD MAC_HASH4` (R175). -/
def execRdMacHash4 (s : State) : Host.Outcome State Fault Refusal := readStored s .macHash4

/-- `WR MAC_HASH4` (R175). -/
def execWrMacHash4 (v : Word) (s : State) : Host.Outcome State Fault Refusal :=
  storeOnly s .macHash4 v

/-- `RD MAC_HASH5` (R175). -/
def execRdMacHash5 (s : State) : Host.Outcome State Fault Refusal := readStored s .macHash5

/-- `WR MAC_HASH5` (R175). -/
def execWrMacHash5 (v : Word) (s : State) : Host.Outcome State Fault Refusal :=
  storeOnly s .macHash5 v

/-- `RD MAC_HASH6` (R175). -/
def execRdMacHash6 (s : State) : Host.Outcome State Fault Refusal := readStored s .macHash6

/-- `WR MAC_HASH6` (R175). -/
def execWrMacHash6 (v : Word) (s : State) : Host.Outcome State Fault Refusal :=
  storeOnly s .macHash6 v

/-- `RD MAC_HASH7` (R175). -/
def execRdMacHash7 (s : State) : Host.Outcome State Fault Refusal := readStored s .macHash7

/-- `WR MAC_HASH7` (R175). -/
def execWrMacHash7 (v : Word) (s : State) : Host.Outcome State Fault Refusal :=
  storeOnly s .macHash7 v

/-- `RD MAC_HASH8` (R175). -/
def execRdMacHash8 (s : State) : Host.Outcome State Fault Refusal := readStored s .macHash8

/-- `WR MAC_HASH8` (R175). -/
def execWrMacHash8 (v : Word) (s : State) : Host.Outcome State Fault Refusal :=
  storeOnly s .macHash8 v

/-- `RD MAC_HASH9` (R175). -/
def execRdMacHash9 (s : State) : Host.Outcome State Fault Refusal := readStored s .macHash9

/-- `WR MAC_HASH9` (R175). -/
def execWrMacHash9 (v : Word) (s : State) : Host.Outcome State Fault Refusal :=
  storeOnly s .macHash9 v

/-- `RD MAC_HASH10` (R175). -/
def execRdMacHash10 (s : State) : Host.Outcome State Fault Refusal := readStored s .macHash10

/-- `WR MAC_HASH10` (R175). -/
def execWrMacHash10 (v : Word) (s : State) : Host.Outcome State Fault Refusal :=
  storeOnly s .macHash10 v

/-- `RD MAC_HASH11` (R175). -/
def execRdMacHash11 (s : State) : Host.Outcome State Fault Refusal := readStored s .macHash11

/-- `WR MAC_HASH11` (R175). -/
def execWrMacHash11 (v : Word) (s : State) : Host.Outcome State Fault Refusal :=
  storeOnly s .macHash11 v

/-- `RD MAC_HASH12` (R175). -/
def execRdMacHash12 (s : State) : Host.Outcome State Fault Refusal := readStored s .macHash12

/-- `WR MAC_HASH12` (R175). -/
def execWrMacHash12 (v : Word) (s : State) : Host.Outcome State Fault Refusal :=
  storeOnly s .macHash12 v

/-- `RD MAC_HASH13` (R175). -/
def execRdMacHash13 (s : State) : Host.Outcome State Fault Refusal := readStored s .macHash13

/-- `WR MAC_HASH13` (R175). -/
def execWrMacHash13 (v : Word) (s : State) : Host.Outcome State Fault Refusal :=
  storeOnly s .macHash13 v

/-- `RD MAC_HASH14` (R175). -/
def execRdMacHash14 (s : State) : Host.Outcome State Fault Refusal := readStored s .macHash14

/-- `WR MAC_HASH14` (R175). -/
def execWrMacHash14 (v : Word) (s : State) : Host.Outcome State Fault Refusal :=
  storeOnly s .macHash14 v

/-- `RD MAC_HASH15` (R175). -/
def execRdMacHash15 (s : State) : Host.Outcome State Fault Refusal := readStored s .macHash15

/-- `WR MAC_HASH15` (R175). -/
def execWrMacHash15 (v : Word) (s : State) : Host.Outcome State Fault Refusal :=
  storeOnly s .macHash15 v

/-- `RD MAC_PATMPS` (R176). -/
def execRdMacPatmps (s : State) : Host.Outcome State Fault Refusal := readStored s .macPatmps

/-- `WR MAC_PATMPS` (R176). -/
def execWrMacPatmps (v : Word) (s : State) : Host.Outcome State Fault Refusal :=
  storeOnly s .macPatmps v

/-- `RD MAC_SMACHINE` (R176). -/
def execRdMacSmachine (s : State) : Host.Outcome State Fault Refusal := readStored s .macSmachine

/-- `WR MAC_SMACHINE` (R176). -/
def execWrMacSmachine (v : Word) (s : State) : Host.Outcome State Fault Refusal :=
  storeOnly s .macSmachine v

end Sys2Proof.Machine
end

