-- ==== Sys2Proof/Machine/BusMifPcs.lean ====
section
/-! DEFINITION. The bus reads and writes of the management-interface and the two PCS banks (40_register_access.md R177 to R180), one definition per row. -/
namespace Sys2Proof.Machine

/-- `RD MIF_FRAME` (R177). -/
def execRdMifFrame (s : State) : Host.Outcome State Fault Refusal := readStored s .mifFrame

/-- `WR MIF_FRAME` (R177). -/
def execWrMifFrame (v : Word) (s : State) : Host.Outcome State Fault Refusal :=
  writing s .mifFrame (writeMifFrame s v)

/-- `RD MIF_CFG` (R178). -/
def execRdMifCfg (s : State) : Host.Outcome State Fault Refusal := readStored s .mifCfg

/-- `WR MIF_CFG` (R178). -/
def execWrMifCfg (v : Word) (s : State) : Host.Outcome State Fault Refusal :=
  storeOnly s .mifCfg ((v &&& ~~~ s.cfg.mifCfgClear) ||| s.cfg.mifCfgSet)

/-- `RD MIF_STATUS` (R179). -/
def execRdMifStatus (s : State) : Host.Outcome State Fault Refusal := readStored s .mifStatus

/-- `WR MIF_STATUS` (R179). -/
def execWrMifStatus (v : Word) (s : State) : Host.Outcome State Fault Refusal :=
  storeOnly s .mifStatus v

/-- `RD MIF_SMACHINE` (R179). -/
def execRdMifSmachine (s : State) : Host.Outcome State Fault Refusal := readStored s .mifSmachine

/-- `WR MIF_SMACHINE` (R179). -/
def execWrMifSmachine (v : Word) (s : State) : Host.Outcome State Fault Refusal :=
  storeOnly s .mifSmachine v

/-- `RD PCS_MIISTAT` (R180). -/
def execRdPcsMiistat (s : State) : Host.Outcome State Fault Refusal := readStored s .pcsMiistat

/-- `WR PCS_MIISTAT` (R180). -/
def execWrPcsMiistat (v : Word) (s : State) : Host.Outcome State Fault Refusal :=
  storeOnly s .pcsMiistat v

/-- `RD PCS_ISTAT` (R180). -/
def execRdPcsIstat (s : State) : Host.Outcome State Fault Refusal := readStored s .pcsIstat

/-- `WR PCS_ISTAT` (R180). -/
def execWrPcsIstat (v : Word) (s : State) : Host.Outcome State Fault Refusal :=
  storeOnly s .pcsIstat v

/-- `RD PCS_SSTATE` (R180). -/
def execRdPcsSstate (s : State) : Host.Outcome State Fault Refusal := readStored s .pcsSstate

/-- `WR PCS_SSTATE` (R180). -/
def execWrPcsSstate (v : Word) (s : State) : Host.Outcome State Fault Refusal :=
  storeOnly s .pcsSstate v

end Sys2Proof.Machine
end

