-- ==== Sys2Proof/Machine/BusOther.lean ====
section
/-! DEFINITION. The bus reads and writes of offsets that name no register: plain words (R145), the five
words of the wake-on-LAN bank (R181), and offsets outside every bank (R143, R144). -/
namespace Sys2Proof.Machine

/-- `RD <plain word>` (R145). -/
def execRdPlainWord (off : Word) (s : State) : Host.Outcome State Fault Refusal :=
  returning s (.word (getWord s off.toNat))

/-- `WR <plain word>` (R145). -/
def execWrPlainWord (off v : Word) (s : State) : Host.Outcome State Fault Refusal :=
  done (setWord s off.toNat v)

/-- `RD <WOL word>` (R181). -/
def execRdWolWord (off : Word) (s : State) : Host.Outcome State Fault Refusal :=
  returning s (.word (getWord s off.toNat))

/-- `WR <WOL word>` (R181): nothing wakes anything. -/
def execWrWolWord (off v : Word) (s : State) : Host.Outcome State Fault Refusal :=
  done (setWord s off.toNat v)

/-- `RD <unmapped>` (R143): all ones, event E1. -/
def execRdUnmapped (off : Word) (s : State) : Host.Outcome State Fault Refusal :=
  returning (raise s (.decodeFailureRead off)) (.word allOnes)

/-- `WR <unmapped>` (R144): nothing changes, event E1. -/
def execWrUnmapped (off v : Word) (s : State) : Host.Outcome State Fault Refusal :=
  done (raise s (.decodeFailureWrite off v))

end Sys2Proof.Machine
end

