-- ==== Sys2Proof/Machine/BusRxDma.lean ====
section
/-! DEFINITION. The bus reads and writes of the receive DMA bank (40_register_access.md R159 to R162), one definition per row. -/
namespace Sys2Proof.Machine

/-- `RD RXDMA_CFG` (R159). -/
def execRdRxdmaCfg (s : State) : Host.Outcome State Fault Refusal := readStored s .rxdmaCfg

/-- `WR RXDMA_CFG` (R159). -/
def execWrRxdmaCfg (v : Word) (s : State) : Host.Outcome State Fault Refusal :=
  storeOnly s .rxdmaCfg v

/-- `RD RXDMA_DBLOW` (R160). -/
def execRdRxdmaDblow (s : State) : Host.Outcome State Fault Refusal := readStored s .rxdmaDblow

/-- `WR RXDMA_DBLOW` (R160). -/
def execWrRxdmaDblow (v : Word) (s : State) : Host.Outcome State Fault Refusal :=
  storeOnly s .rxdmaDblow v

/-- `RD RXDMA_DBHI` (R160). -/
def execRdRxdmaDbhi (s : State) : Host.Outcome State Fault Refusal := readStored s .rxdmaDbhi

/-- `WR RXDMA_DBHI` (R160). -/
def execWrRxdmaDbhi (v : Word) (s : State) : Host.Outcome State Fault Refusal :=
  storeOnly s .rxdmaDbhi v

/-- `RD RXDMA_PCNT` (R162). -/
def execRdRxdmaPcnt (s : State) : Host.Outcome State Fault Refusal := readStored s .rxdmaPcnt

/-- `WR RXDMA_PCNT` (R162). -/
def execWrRxdmaPcnt (v : Word) (s : State) : Host.Outcome State Fault Refusal :=
  storeOnly s .rxdmaPcnt v

/-- `RD RXDMA_SMACHINE` (R162). -/
def execRdRxdmaSmachine (s : State) : Host.Outcome State Fault Refusal :=
  readStored s .rxdmaSmachine

/-- `WR RXDMA_SMACHINE` (R162). -/
def execWrRxdmaSmachine (v : Word) (s : State) : Host.Outcome State Fault Refusal :=
  storeOnly s .rxdmaSmachine v

/-- `RD RXDMA_DPLOW` (R162). -/
def execRdRxdmaDplow (s : State) : Host.Outcome State Fault Refusal := readStored s .rxdmaDplow

/-- `WR RXDMA_DPLOW` (R162). -/
def execWrRxdmaDplow (v : Word) (s : State) : Host.Outcome State Fault Refusal :=
  storeOnly s .rxdmaDplow v

/-- `RD RXDMA_DPHI` (R162). -/
def execRdRxdmaDphi (s : State) : Host.Outcome State Fault Refusal := readStored s .rxdmaDphi

/-- `WR RXDMA_DPHI` (R162). -/
def execWrRxdmaDphi (v : Word) (s : State) : Host.Outcome State Fault Refusal :=
  storeOnly s .rxdmaDphi v

/-- `RD RXDMA_KICK` (R161). -/
def execRdRxdmaKick (s : State) : Host.Outcome State Fault Refusal := readStored s .rxdmaKick

/-- `WR RXDMA_KICK` (R161). -/
def execWrRxdmaKick (v : Word) (s : State) : Host.Outcome State Fault Refusal :=
  storeOnly s .rxdmaKick v

/-- `RD RXDMA_DONE` (R162). -/
def execRdRxdmaDone (s : State) : Host.Outcome State Fault Refusal := readStored s .rxdmaDone

/-- `WR RXDMA_DONE` (R162). -/
def execWrRxdmaDone (v : Word) (s : State) : Host.Outcome State Fault Refusal :=
  storeOnly s .rxdmaDone v

/-- `RD RXDMA_FTAG` (R162). -/
def execRdRxdmaFtag (s : State) : Host.Outcome State Fault Refusal := readStored s .rxdmaFtag

/-- `WR RXDMA_FTAG` (R162). -/
def execWrRxdmaFtag (v : Word) (s : State) : Host.Outcome State Fault Refusal :=
  storeOnly s .rxdmaFtag v

/-- `RD RXDMA_FSZ` (R162). -/
def execRdRxdmaFsz (s : State) : Host.Outcome State Fault Refusal := readStored s .rxdmaFsz

/-- `WR RXDMA_FSZ` (R162). -/
def execWrRxdmaFsz (v : Word) (s : State) : Host.Outcome State Fault Refusal :=
  storeOnly s .rxdmaFsz v

end Sys2Proof.Machine
end

