-- ==== Sys2Proof/Machine/BusTxDma.lean ====
section
/-! DEFINITION. The bus reads and writes of the transmit DMA bank (40_register_access.md R155 to R158), one definition per row. -/
namespace Sys2Proof.Machine

/-- `RD TXDMA_KICK` (R155). -/
def execRdTxdmaKick (s : State) : Host.Outcome State Fault Refusal := readStored s .txdmaKick

/-- `WR TXDMA_KICK` (R155). -/
def execWrTxdmaKick (v : Word) (s : State) : Host.Outcome State Fault Refusal :=
  writing s .txdmaKick (kick (setReg s .txdmaKick v))

/-- `RD TXDMA_CFG` (R156). -/
def execRdTxdmaCfg (s : State) : Host.Outcome State Fault Refusal := readStored s .txdmaCfg

/-- `WR TXDMA_CFG` (R156). -/
def execWrTxdmaCfg (v : Word) (s : State) : Host.Outcome State Fault Refusal :=
  storeOnly s .txdmaCfg v

/-- `RD TXDMA_DBLOW` (R157). -/
def execRdTxdmaDblow (s : State) : Host.Outcome State Fault Refusal := readStored s .txdmaDblow

/-- `WR TXDMA_DBLOW` (R157). -/
def execWrTxdmaDblow (v : Word) (s : State) : Host.Outcome State Fault Refusal :=
  storeOnly s .txdmaDblow v

/-- `RD TXDMA_DBHI` (R157). -/
def execRdTxdmaDbhi (s : State) : Host.Outcome State Fault Refusal := readStored s .txdmaDbhi

/-- `WR TXDMA_DBHI` (R157). -/
def execWrTxdmaDbhi (v : Word) (s : State) : Host.Outcome State Fault Refusal :=
  storeOnly s .txdmaDbhi v

/-- `RD TXDMA_PCNT` (R158). -/
def execRdTxdmaPcnt (s : State) : Host.Outcome State Fault Refusal := readStored s .txdmaPcnt

/-- `WR TXDMA_PCNT` (R158). -/
def execWrTxdmaPcnt (v : Word) (s : State) : Host.Outcome State Fault Refusal :=
  storeOnly s .txdmaPcnt v

/-- `RD TXDMA_SMACHINE` (R158). -/
def execRdTxdmaSmachine (s : State) : Host.Outcome State Fault Refusal :=
  readStored s .txdmaSmachine

/-- `WR TXDMA_SMACHINE` (R158). -/
def execWrTxdmaSmachine (v : Word) (s : State) : Host.Outcome State Fault Refusal :=
  storeOnly s .txdmaSmachine v

/-- `RD TXDMA_DPLOW` (R158). -/
def execRdTxdmaDplow (s : State) : Host.Outcome State Fault Refusal := readStored s .txdmaDplow

/-- `WR TXDMA_DPLOW` (R158). -/
def execWrTxdmaDplow (v : Word) (s : State) : Host.Outcome State Fault Refusal :=
  storeOnly s .txdmaDplow v

/-- `RD TXDMA_DPHI` (R158). -/
def execRdTxdmaDphi (s : State) : Host.Outcome State Fault Refusal := readStored s .txdmaDphi

/-- `WR TXDMA_DPHI` (R158). -/
def execWrTxdmaDphi (v : Word) (s : State) : Host.Outcome State Fault Refusal :=
  storeOnly s .txdmaDphi v

/-- `RD TXDMA_TXDONE` (R158). -/
def execRdTxdmaTxdone (s : State) : Host.Outcome State Fault Refusal := readStored s .txdmaTxdone

/-- `WR TXDMA_TXDONE` (R158). -/
def execWrTxdmaTxdone (v : Word) (s : State) : Host.Outcome State Fault Refusal :=
  storeOnly s .txdmaTxdone v

/-- `RD TXDMA_FTAG` (R158). -/
def execRdTxdmaFtag (s : State) : Host.Outcome State Fault Refusal := readStored s .txdmaFtag

/-- `WR TXDMA_FTAG` (R158). -/
def execWrTxdmaFtag (v : Word) (s : State) : Host.Outcome State Fault Refusal :=
  storeOnly s .txdmaFtag v

/-- `RD TXDMA_FSZ` (R158). -/
def execRdTxdmaFsz (s : State) : Host.Outcome State Fault Refusal := readStored s .txdmaFsz

/-- `WR TXDMA_FSZ` (R158). -/
def execWrTxdmaFsz (v : Word) (s : State) : Host.Outcome State Fault Refusal :=
  storeOnly s .txdmaFsz v

end Sys2Proof.Machine
end

