-- ==== Sys2Proof/Machine/DataWords.lean ====
section
/-! DEFINITION. The rows that the data word of a bus write selects: the software-reset word (R154), the
management frame (R211 to R218), and the transceiver register of a management read (R216). Each means
the whole bus write that carries the word, which is discarded if the register is one of `RO_SET` (R141; log
entry 26). -/
namespace Sys2Proof.Machine

/-- `SWRST.ALL` (R154): both request bits. -/
def execSwrstAll (v : Word) (s : State) : Host.Outcome State Fault Refusal :=
  writing s .gregSwrst (resetAll (storeSwrst s v) false)

/-- `SWRST.RX` (R154): only the receive request bit. -/
def execSwrstRx (v : Word) (s : State) : Host.Outcome State Fault Refusal :=
  writing s .gregSwrst (resetRx (storeSwrst s v))

/-- `SWRST.TX` (R154): only the transmit request bit. -/
def execSwrstTx (v : Word) (s : State) : Host.Outcome State Fault Refusal :=
  writing s .gregSwrst (resetTx (storeSwrst s v))

/-- `SWRST.NONE` (R154): only the store. -/
def execSwrstNone (v : Word) (s : State) : Host.Outcome State Fault Refusal :=
  writing s .gregSwrst (storeSwrst s v)

/-- `MIF.WRITE` (R215). -/
def execMifWrite (v : Word) (s : State) : Host.Outcome State Fault Refusal :=
  writing s .mifFrame (storeFrame s v (mifWriteResult s v))

/-- `MIF.READ` (R217). -/
def execMifRead (v : Word) (s : State) : Host.Outcome State Fault Refusal :=
  writing s .mifFrame (storeFrame s v (mifReadResult s (mifPhy s.cfg v) (mifReg s.cfg v)))

/-- An invalid opcode under a valid tag: the all-ones sentinel, event E11 (R214). -/
def badOpcode (v : Word) (s : State) : State :=
  storeFrame (raise s (.miiInvalidOp (mifOpcode s.cfg v))) v allOnes

/-- An invalid tag: the all-ones sentinel, event E10 (R213). -/
def badTag (v : Word) (s : State) : State :=
  storeFrame (raise s (.miiInvalidStart (mifTag s.cfg v))) v allOnes

/-- `MIF.BADOP0` (R214). -/
def execMifBadOp0 (v : Word) (s : State) : Host.Outcome State Fault Refusal :=
  writing s .mifFrame (badOpcode v s)

/-- `MIF.BADOP3` (R214). -/
def execMifBadOp3 (v : Word) (s : State) : Host.Outcome State Fault Refusal :=
  writing s .mifFrame (badOpcode v s)

/-- `MIF.BADTAG0` (R213). -/
def execMifBadTag0 (v : Word) (s : State) : Host.Outcome State Fault Refusal :=
  writing s .mifFrame (badTag v s)

/-- `MIF.BADTAG2` (R213). -/
def execMifBadTag2 (v : Word) (s : State) : Host.Outcome State Fault Refusal :=
  writing s .mifFrame (badTag v s)

/-- `MIF.BADTAG3` (R213). -/
def execMifBadTag3 (v : Word) (s : State) : Host.Outcome State Fault Refusal :=
  writing s .mifFrame (badTag v s)

/-- A management read of one transceiver register of the addressed transceiver (R216, R217). -/
def readPhyReg (v : Word) (reg : Nat) (s : State) : State :=
  storeFrame s v (mifReadResult s (mifPhy s.cfg v) reg)

/-- `PHYREG 0 (control)` (R216). -/
def execPhyreg0Control (v : Word) (s : State) : Host.Outcome State Fault Refusal :=
  writing s .mifFrame (readPhyReg v 0 s)

/-- `PHYREG 1 (status)` (R216): the one register that depends on the link. -/
def execPhyreg1Status (v : Word) (s : State) : Host.Outcome State Fault Refusal :=
  writing s .mifFrame (readPhyReg v 1 s)

/-- `PHYREG 2 (identifier high)` (R216). -/
def execPhyreg2IdentifierHigh (v : Word) (s : State) : Host.Outcome State Fault Refusal :=
  writing s .mifFrame (readPhyReg v 2 s)

/-- `PHYREG 3 (identifier low)` (R216). -/
def execPhyreg3IdentifierLow (v : Word) (s : State) : Host.Outcome State Fault Refusal :=
  writing s .mifFrame (readPhyReg v 3 s)

/-- `PHYREG 4 (advertisement)` (R216). -/
def execPhyreg4Advertisement (v : Word) (s : State) : Host.Outcome State Fault Refusal :=
  writing s .mifFrame (readPhyReg v 4 s)

/-- `PHYREG 5 (link partner)` (R216). -/
def execPhyreg5LinkPartner (v : Word) (s : State) : Host.Outcome State Fault Refusal :=
  writing s .mifFrame (readPhyReg v 5 s)

/-- `PHYREG 24 (auxiliary)` (R216). -/
def execPhyreg24Auxiliary (v : Word) (s : State) : Host.Outcome State Fault Refusal :=
  writing s .mifFrame (readPhyReg v 24 s)

/-- `PHYREG other` (R216): an index without a row of its own. -/
def execPhyregOther (v : Word) (s : State) : Host.Outcome State Fault Refusal :=
  writing s .mifFrame (readPhyReg v (mifReg s.cfg v) s)

end Sys2Proof.Machine
end

