-- ==== Sys2Proof/Machine/Descriptors.lean ====
section
/-! DEFINITION. The descriptor rows: what the engines do with one descriptor of the slot their cursor
selects (30_encoding.md R104 to R110; log entry 11). -/
namespace Sys2Proof.Machine

/-- `TXD` (R236): one turn of the loop of `Kick()` on this descriptor. -/
def execTxd (ctl buf : DWord) (s : State) : Host.Outcome State Fault Refusal :=
  done (txSlot s (txMask s) (txCursor s) ctl buf)

/-- `RXD.POSTED` (R108, R279, R280): the status word is ignored, the buffer word gives the guest address
the frame goes to. -/
def execRxdPosted (_status buf : DWord) (s : State) : Host.Outcome State Fault Refusal :=
  returning s (.address (postedAddr s buf))

/-- `RXD.STATUS` (R109, R283, R284): the descriptor is written back over its slot, `pc_rx` advances, the
completion is reported. -/
def execRxdStatus (status buf : DWord) (s : State) : Host.Outcome State Fault Refusal :=
  done (rxWriteBack s status buf)

end Sys2Proof.Machine
end

