-- ==== Sys2Proof/Machine/Internals.lean ====
section
/-! DEFINITION. The internal procedures, each run by itself (R22, R190): no port reaches them; the
operations of the ports call them (log entry 10). -/
namespace Sys2Proof.Machine

/-- `Kick` (R236). -/
def execKick (s : State) : Host.Outcome State Fault Refusal := done (kick s)

/-- `Evaluate` (R191). -/
def execEvaluate (s : State) : Host.Outcome State Fault Refusal := done (evaluate s)

/-- `Cascade` (R192). -/
def execCascade (s : State) : Host.Outcome State Fault Refusal := done (cascade s)

/-- `Ack` (R198). -/
def execAck (v : Word) (s : State) : Host.Outcome State Fault Refusal := done (acknowledge s v)

/-- `SetStatus` (R200). -/
def execSetStatus (bits : Word) (on : Bool) (s : State) : Host.Outcome State Fault Refusal :=
  done (setStatus s bits on)

/-- `MiiOp` (R211): its result goes to the caller, which stores it. -/
def execMiiOp (v : Word) (s : State) : Host.Outcome State Fault Refusal :=
  let r := miiOp s v
  returning r.2 (.word r.1)

/-- `Classify` (R270): pure. -/
def execClassify (dst : MacAddr) (crc : Word) (s : State) : Host.Outcome State Fault Refusal :=
  returning s (.addrMatch (classify s dst crc))

/-- `ResetRx` (R341). -/
def execResetRx (s : State) : Host.Outcome State Fault Refusal := done (resetRx s)

/-- `ResetTx` (R342). -/
def execResetTx (s : State) : Host.Outcome State Fault Refusal := done (resetTx s)

/-- `ResetAll` (R343). -/
def execResetAll (isBusReset : Bool) (s : State) : Host.Outcome State Fault Refusal :=
  done (resetAll s isBusReset)

end Sys2Proof.Machine
end

