-- ==== Sys2Proof/Machine/Ports.lean ====
section
/-! DEFINITION. The operations that arrive on ports without an encoding (R22): the receive interface, the
bus reset, the link input. -/
namespace Sys2Proof.Machine

/-- `CanAccept` (R261): pure. -/
def execCanAccept (s : State) : Host.Outcome State Fault Refusal :=
  returning s (.flag (canAccept s))

/-- `Deliver` (R262). -/
def execDeliver (frame : List Byte) (s : State) : Host.Outcome State Fault Refusal :=
  let r := deliver s frame
  returning r.2 (.count r.1)

/-- `BusReset` (R345). -/
def execBusReset (s : State) : Host.Outcome State Fault Refusal := done (resetAll s true)

/-- `SetLink` (R221): nothing else changes. -/
def execSetLink (up : Bool) (s : State) : Host.Outcome State Fault Refusal :=
  done (setLinkUp s up)

end Sys2Proof.Machine
end

