-- ==== Sys2Proof/Machine/Dispatch.lean ====
section
/-! DEFINITION. The meaning of every instruction: one arm per constructor, in the order of the opcode
table, each one direct call of the definition that gives the row its meaning. -/
namespace Sys2Proof.Machine

def exec (i : Instr) (s : State) : Host.Outcome State Fault Refusal :=
  match i with
  | .rdGregSebstate => Sys2Proof.Machine.execRdGregSebstate s
  | .wrGregSebstate v => Sys2Proof.Machine.execWrGregSebstate v s
  | .rdGregStat => Sys2Proof.Machine.execRdGregStat s
  | .wrGregStat v => Sys2Proof.Machine.execWrGregStat v s
  | .rdGregImask => Sys2Proof.Machine.execRdGregImask s
  | .wrGregImask v => Sys2Proof.Machine.execWrGregImask v s
  | .rdGregIack => Sys2Proof.Machine.execRdGregIack s
  | .wrGregIack v => Sys2Proof.Machine.execWrGregIack v s
  | .rdGregStat2 => Sys2Proof.Machine.execRdGregStat2 s
  | .wrGregStat2 v => Sys2Proof.Machine.execWrGregStat2 v s
  | .rdGregPciestat => Sys2Proof.Machine.execRdGregPciestat s
  | .wrGregPciestat v => Sys2Proof.Machine.execWrGregPciestat v s
  | .rdGregPciemask => Sys2Proof.Machine.execRdGregPciemask s
  | .wrGregPciemask v => Sys2Proof.Machine.execWrGregPciemask v s
  | .rdGregSwrst => Sys2Proof.Machine.execRdGregSwrst s
  | .wrGregSwrst v => Sys2Proof.Machine.execWrGregSwrst v s
  | .rdTxdmaKick => Sys2Proof.Machine.execRdTxdmaKick s
  | .wrTxdmaKick v => Sys2Proof.Machine.execWrTxdmaKick v s
  | .rdTxdmaCfg => Sys2Proof.Machine.execRdTxdmaCfg s
  | .wrTxdmaCfg v => Sys2Proof.Machine.execWrTxdmaCfg v s
  | .rdTxdmaDblow => Sys2Proof.Machine.execRdTxdmaDblow s
  | .wrTxdmaDblow v => Sys2Proof.Machine.execWrTxdmaDblow v s
  | .rdTxdmaDbhi => Sys2Proof.Machine.execRdTxdmaDbhi s
  | .wrTxdmaDbhi v => Sys2Proof.Machine.execWrTxdmaDbhi v s
  | .rdTxdmaPcnt => Sys2Proof.Machine.execRdTxdmaPcnt s
  | .wrTxdmaPcnt v => Sys2Proof.Machine.execWrTxdmaPcnt v s
  | .rdTxdmaSmachine => Sys2Proof.Machine.execRdTxdmaSmachine s
  | .wrTxdmaSmachine v => Sys2Proof.Machine.execWrTxdmaSmachine v s
  | .rdTxdmaDplow => Sys2Proof.Machine.execRdTxdmaDplow s
  | .wrTxdmaDplow v => Sys2Proof.Machine.execWrTxdmaDplow v s
  | .rdTxdmaDphi => Sys2Proof.Machine.execRdTxdmaDphi s
  | .wrTxdmaDphi v => Sys2Proof.Machine.execWrTxdmaDphi v s
  | .rdTxdmaTxdone => Sys2Proof.Machine.execRdTxdmaTxdone s
  | .wrTxdmaTxdone v => Sys2Proof.Machine.execWrTxdmaTxdone v s
  | .rdTxdmaFtag => Sys2Proof.Machine.execRdTxdmaFtag s
  | .wrTxdmaFtag v => Sys2Proof.Machine.execWrTxdmaFtag v s
  | .rdTxdmaFsz => Sys2Proof.Machine.execRdTxdmaFsz s
  | .wrTxdmaFsz v => Sys2Proof.Machine.execWrTxdmaFsz v s
  | .rdRxdmaCfg => Sys2Proof.Machine.execRdRxdmaCfg s
  | .wrRxdmaCfg v => Sys2Proof.Machine.execWrRxdmaCfg v s
  | .rdRxdmaDblow => Sys2Proof.Machine.execRdRxdmaDblow s
  | .wrRxdmaDblow v => Sys2Proof.Machine.execWrRxdmaDblow v s
  | .rdRxdmaDbhi => Sys2Proof.Machine.execRdRxdmaDbhi s
  | .wrRxdmaDbhi v => Sys2Proof.Machine.execWrRxdmaDbhi v s
  | .rdRxdmaPcnt => Sys2Proof.Machine.execRdRxdmaPcnt s
  | .wrRxdmaPcnt v => Sys2Proof.Machine.execWrRxdmaPcnt v s
  | .rdRxdmaSmachine => Sys2Proof.Machine.execRdRxdmaSmachine s
  | .wrRxdmaSmachine v => Sys2Proof.Machine.execWrRxdmaSmachine v s
  | .rdRxdmaDplow => Sys2Proof.Machine.execRdRxdmaDplow s
  | .wrRxdmaDplow v => Sys2Proof.Machine.execWrRxdmaDplow v s
  | .rdRxdmaDphi => Sys2Proof.Machine.execRdRxdmaDphi s
  | .wrRxdmaDphi v => Sys2Proof.Machine.execWrRxdmaDphi v s
  | .rdRxdmaKick => Sys2Proof.Machine.execRdRxdmaKick s
  | .wrRxdmaKick v => Sys2Proof.Machine.execWrRxdmaKick v s
  | .rdRxdmaDone => Sys2Proof.Machine.execRdRxdmaDone s
  | .wrRxdmaDone v => Sys2Proof.Machine.execWrRxdmaDone v s
  | .rdRxdmaFtag => Sys2Proof.Machine.execRdRxdmaFtag s
  | .wrRxdmaFtag v => Sys2Proof.Machine.execWrRxdmaFtag v s
  | .rdRxdmaFsz => Sys2Proof.Machine.execRdRxdmaFsz s
  | .wrRxdmaFsz v => Sys2Proof.Machine.execWrRxdmaFsz v s
  | .rdMacTxrst => Sys2Proof.Machine.execRdMacTxrst s
  | .wrMacTxrst v => Sys2Proof.Machine.execWrMacTxrst v s
  | .rdMacRxrst => Sys2Proof.Machine.execRdMacRxrst s
  | .wrMacRxrst v => Sys2Proof.Machine.execWrMacRxrst v s
  | .rdMacTxstat => Sys2Proof.Machine.execRdMacTxstat s
  | .wrMacTxstat v => Sys2Proof.Machine.execWrMacTxstat v s
  | .rdMacRxstat => Sys2Proof.Machine.execRdMacRxstat s
  | .wrMacRxstat v => Sys2Proof.Machine.execWrMacRxstat v s
  | .rdMacCstat => Sys2Proof.Machine.execRdMacCstat s
  | .wrMacCstat v => Sys2Proof.Machine.execWrMacCstat v s
  | .rdMacTxmask => Sys2Proof.Machine.execRdMacTxmask s
  | .wrMacTxmask v => Sys2Proof.Machine.execWrMacTxmask v s
  | .rdMacRxmask => Sys2Proof.Machine.execRdMacRxmask s
  | .wrMacRxmask v => Sys2Proof.Machine.execWrMacRxmask v s
  | .rdMacMcmask => Sys2Proof.Machine.execRdMacMcmask s
  | .wrMacMcmask v => Sys2Proof.Machine.execWrMacMcmask v s
  | .rdMacTxcfg => Sys2Proof.Machine.execRdMacTxcfg s
  | .wrMacTxcfg v => Sys2Proof.Machine.execWrMacTxcfg v s
  | .rdMacRxcfg => Sys2Proof.Machine.execRdMacRxcfg s
  | .wrMacRxcfg v => Sys2Proof.Machine.execWrMacRxcfg v s
  | .rdMacXifcfg => Sys2Proof.Machine.execRdMacXifcfg s
  | .wrMacXifcfg v => Sys2Proof.Machine.execWrMacXifcfg v s
  | .rdMacMinfsz => Sys2Proof.Machine.execRdMacMinfsz s
  | .wrMacMinfsz v => Sys2Proof.Machine.execWrMacMinfsz v s
  | .rdMacMaxfsz => Sys2Proof.Machine.execRdMacMaxfsz s
  | .wrMacMaxfsz v => Sys2Proof.Machine.execWrMacMaxfsz v s
  | .rdMacAddr0 => Sys2Proof.Machine.execRdMacAddr0 s
  | .wrMacAddr0 v => Sys2Proof.Machine.execWrMacAddr0 v s
  | .rdMacAddr1 => Sys2Proof.Machine.execRdMacAddr1 s
  | .wrMacAddr1 v => Sys2Proof.Machine.execWrMacAddr1 v s
  | .rdMacAddr2 => Sys2Proof.Machine.execRdMacAddr2 s
  | .wrMacAddr2 v => Sys2Proof.Machine.execWrMacAddr2 v s
  | .rdMacAddr3 => Sys2Proof.Machine.execRdMacAddr3 s
  | .wrMacAddr3 v => Sys2Proof.Machine.execWrMacAddr3 v s
  | .rdMacAddr4 => Sys2Proof.Machine.execRdMacAddr4 s
  | .wrMacAddr4 v => Sys2Proof.Machine.execWrMacAddr4 v s
  | .rdMacAddr5 => Sys2Proof.Machine.execRdMacAddr5 s
  | .wrMacAddr5 v => Sys2Proof.Machine.execWrMacAddr5 v s
  | .rdMacHash0 => Sys2Proof.Machine.execRdMacHash0 s
  | .wrMacHash0 v => Sys2Proof.Machine.execWrMacHash0 v s
  | .rdMacHash1 => Sys2Proof.Machine.execRdMacHash1 s
  | .wrMacHash1 v => Sys2Proof.Machine.execWrMacHash1 v s
  | .rdMacHash2 => Sys2Proof.Machine.execRdMacHash2 s
  | .wrMacHash2 v => Sys2Proof.Machine.execWrMacHash2 v s
  | .rdMacHash3 => Sys2Proof.Machine.execRdMacHash3 s
  | .wrMacHash3 v => Sys2Proof.Machine.execWrMacHash3 v s
  | .rdMacHash4 => Sys2Proof.Machine.execRdMacHash4 s
  | .wrMacHash4 v => Sys2Proof.Machine.execWrMacHash4 v s
  | .rdMacHash5 => Sys2Proof.Machine.execRdMacHash5 s
  | .wrMacHash5 v => Sys2Proof.Machine.execWrMacHash5 v s
  | .rdMacHash6 => Sys2Proof.Machine.execRdMacHash6 s
  | .wrMacHash6 v => Sys2Proof.Machine.execWrMacHash6 v s
  | .rdMacHash7 => Sys2Proof.Machine.execRdMacHash7 s
  | .wrMacHash7 v => Sys2Proof.Machine.execWrMacHash7 v s
  | .rdMacHash8 => Sys2Proof.Machine.execRdMacHash8 s
  | .wrMacHash8 v => Sys2Proof.Machine.execWrMacHash8 v s
  | .rdMacHash9 => Sys2Proof.Machine.execRdMacHash9 s
  | .wrMacHash9 v => Sys2Proof.Machine.execWrMacHash9 v s
  | .rdMacHash10 => Sys2Proof.Machine.execRdMacHash10 s
  | .wrMacHash10 v => Sys2Proof.Machine.execWrMacHash10 v s
  | .rdMacHash11 => Sys2Proof.Machine.execRdMacHash11 s
  | .wrMacHash11 v => Sys2Proof.Machine.execWrMacHash11 v s
  | .rdMacHash12 => Sys2Proof.Machine.execRdMacHash12 s
  | .wrMacHash12 v => Sys2Proof.Machine.execWrMacHash12 v s
  | .rdMacHash13 => Sys2Proof.Machine.execRdMacHash13 s
  | .wrMacHash13 v => Sys2Proof.Machine.execWrMacHash13 v s
  | .rdMacHash14 => Sys2Proof.Machine.execRdMacHash14 s
  | .wrMacHash14 v => Sys2Proof.Machine.execWrMacHash14 v s
  | .rdMacHash15 => Sys2Proof.Machine.execRdMacHash15 s
  | .wrMacHash15 v => Sys2Proof.Machine.execWrMacHash15 v s
  | .rdMacPatmps => Sys2Proof.Machine.execRdMacPatmps s
  | .wrMacPatmps v => Sys2Proof.Machine.execWrMacPatmps v s
  | .rdMacSmachine => Sys2Proof.Machine.execRdMacSmachine s
  | .wrMacSmachine v => Sys2Proof.Machine.execWrMacSmachine v s
  | .rdMifFrame => Sys2Proof.Machine.execRdMifFrame s
  | .wrMifFrame v => Sys2Proof.Machine.execWrMifFrame v s
  | .rdMifCfg => Sys2Proof.Machine.execRdMifCfg s
  | .wrMifCfg v => Sys2Proof.Machine.execWrMifCfg v s
  | .rdMifStatus => Sys2Proof.Machine.execRdMifStatus s
  | .wrMifStatus v => Sys2Proof.Machine.execWrMifStatus v s
  | .rdMifSmachine => Sys2Proof.Machine.execRdMifSmachine s
  | .wrMifSmachine v => Sys2Proof.Machine.execWrMifSmachine v s
  | .rdPcsMiistat => Sys2Proof.Machine.execRdPcsMiistat s
  | .wrPcsMiistat v => Sys2Proof.Machine.execWrPcsMiistat v s
  | .rdPcsIstat => Sys2Proof.Machine.execRdPcsIstat s
  | .wrPcsIstat v => Sys2Proof.Machine.execWrPcsIstat v s
  | .rdPcsSstate => Sys2Proof.Machine.execRdPcsSstate s
  | .wrPcsSstate v => Sys2Proof.Machine.execWrPcsSstate v s
  | .rdPlainWord off => Sys2Proof.Machine.execRdPlainWord off s
  | .wrPlainWord off v => Sys2Proof.Machine.execWrPlainWord off v s
  | .rdWolWord off => Sys2Proof.Machine.execRdWolWord off s
  | .wrWolWord off v => Sys2Proof.Machine.execWrWolWord off v s
  | .rdUnmapped off => Sys2Proof.Machine.execRdUnmapped off s
  | .wrUnmapped off v => Sys2Proof.Machine.execWrUnmapped off v s
  | .swrstAll v => Sys2Proof.Machine.execSwrstAll v s
  | .swrstRx v => Sys2Proof.Machine.execSwrstRx v s
  | .swrstTx v => Sys2Proof.Machine.execSwrstTx v s
  | .swrstNone v => Sys2Proof.Machine.execSwrstNone v s
  | .mifWrite v => Sys2Proof.Machine.execMifWrite v s
  | .mifRead v => Sys2Proof.Machine.execMifRead v s
  | .mifBadOp0 v => Sys2Proof.Machine.execMifBadOp0 v s
  | .mifBadOp3 v => Sys2Proof.Machine.execMifBadOp3 v s
  | .mifBadTag0 v => Sys2Proof.Machine.execMifBadTag0 v s
  | .mifBadTag2 v => Sys2Proof.Machine.execMifBadTag2 v s
  | .mifBadTag3 v => Sys2Proof.Machine.execMifBadTag3 v s
  | .phyreg0Control v => Sys2Proof.Machine.execPhyreg0Control v s
  | .phyreg1Status v => Sys2Proof.Machine.execPhyreg1Status v s
  | .phyreg2IdentifierHigh v => Sys2Proof.Machine.execPhyreg2IdentifierHigh v s
  | .phyreg3IdentifierLow v => Sys2Proof.Machine.execPhyreg3IdentifierLow v s
  | .phyreg4Advertisement v => Sys2Proof.Machine.execPhyreg4Advertisement v s
  | .phyreg5LinkPartner v => Sys2Proof.Machine.execPhyreg5LinkPartner v s
  | .phyreg24Auxiliary v => Sys2Proof.Machine.execPhyreg24Auxiliary v s
  | .phyregOther v => Sys2Proof.Machine.execPhyregOther v s
  | .txd ctl buf => Sys2Proof.Machine.execTxd ctl buf s
  | .rxdPosted status buf => Sys2Proof.Machine.execRxdPosted status buf s
  | .rxdStatus status buf => Sys2Proof.Machine.execRxdStatus status buf s
  | .canAccept => Sys2Proof.Machine.execCanAccept s
  | .deliver frame => Sys2Proof.Machine.execDeliver frame s
  | .busReset => Sys2Proof.Machine.execBusReset s
  | .setLink up => Sys2Proof.Machine.execSetLink up s
  | .kick => Sys2Proof.Machine.execKick s
  | .evaluate => Sys2Proof.Machine.execEvaluate s
  | .cascade => Sys2Proof.Machine.execCascade s
  | .ack v => Sys2Proof.Machine.execAck v s
  | .setStatus bits on => Sys2Proof.Machine.execSetStatus bits on s
  | .miiOp v => Sys2Proof.Machine.execMiiOp v s
  | .classify dst crc => Sys2Proof.Machine.execClassify dst crc s
  | .resetRx => Sys2Proof.Machine.execResetRx s
  | .resetTx => Sys2Proof.Machine.execResetTx s
  | .resetAll isBusReset => Sys2Proof.Machine.execResetAll isBusReset s

end Sys2Proof.Machine
end

