-- ==== Sys2Proof/Machine/Fetch.lean ====
section
/-! DEFINITION. Fetching: the block does nothing unless an operation is presented to it (00_scope.md
R22), so the next instruction is the oldest request of the environment (log entry 1). The engines' own
fetches, of descriptors from guest memory, are part of `Kick()` and `Deliver()` (R98, R100). -/
namespace Sys2Proof.Machine

/-- The refusal a rejected request ends in. -/
def refusalOf : DecodeError → Refusal
  | .busRefused off size => .busRefused off size
  | .malformed => .malformedRequest

/-- Run the oldest request: nothing to do without one (R22); a store of the guest to its own memory
(R322); or the operation that the port and its bytes decode to. -/
def runNext (s : State) : Host.Outcome State Fault Refusal :=
  match s.requests with
  | [] => .next s
  | .guestStore a bytes :: rest =>
    .next (setMem (setRequests s rest) (writeBytes s.mem a bytes))
  | .op port bytes :: rest =>
    match decode s.cfg (.port port) bytes with
    | .ok i => exec i (setRequests s rest)
    | .error e => .refused (refusalOf e)

/-- A transmit descriptor that the very next step processes: its 16 bytes in the slot `pc_tx` selects,
both transmit enables set, and the kick write that covers exactly this slot as the oldest request
(R231, R236; log entry 2). -/
def placeDescriptor (s : State) (bytes : List Byte) : State :=
  let s1 := setReg s .txdmaCfg (getReg s .txdmaCfg ||| s.cfg.dmacfgEnable)
  let s2 := setReg s1 .macTxcfg (getReg s .macTxcfg ||| s.cfg.macTxcfgEnab)
  let kickTo := advance (txMask s2) (txCursor s2)
  let req := Request.op (.busWrite accessBytes) (writeReg s.cfg .txdmaKick kickTo).2
  setRequests (setMem s2 (writeBytes s2.mem (slotAddr (txBase s2) (txCursor s2)) bytes))
    (req :: s2.requests)

/-- The state in which the instruction of a source and its bytes is the next to run. -/
def placeNext (s : State) (src : Source) (bytes : List Byte) : State :=
  match src with
  | .port p => setRequests s (.op p bytes :: s.requests)
  | .txDescriptor => placeDescriptor s bytes
  | .rxPosted => s
  | .rxStatus => s

end Sys2Proof.Machine
end

