-- ==== Sys2Proof/Machine/Step.lean ====
section
/-! DEFINITION. One step of the machine: one whole operation (00_scope.md R23). -/
namespace Sys2Proof.Machine

/-- One step: the oldest request of the environment runs to completion (R22, R23). -/
def step (s : State) : Host.Outcome State Fault Refusal := runNext s

/-- The state in which the instruction whose table bits are `w` is the next to run. -/
def State.withFetchWord (s : State) (nbits w : Nat) : State :=
  let sb := tableSource s.cfg nbits w
  placeNext s sb.1 sb.2

end Sys2Proof.Machine
end

