-- ==== Sys2Proof/Safety.lean ====
section
/-! DEFINITION. What holds of every state the block can be in, and what a safe run is (10_state.md R67,
41_interrupt_aggregator.md R199, 60_exceptions.md R305). -/
namespace Sys2Proof.Machine

/-- The registers that neither the bus nor an engine ever changes (R67 (iii)), the sub-status registers
apart. -/
def constantRegs : List Reg := [
  .gregSebstate, .gregIack, .gregStat2, .gregPciestat,
  .txdmaPcnt, .txdmaSmachine, .txdmaDplow, .txdmaDphi, .txdmaFtag,
  .rxdmaPcnt, .rxdmaSmachine, .rxdmaDplow, .rxdmaDphi, .rxdmaFtag,
  .macTxrst, .macRxrst, .macPatmps, .macSmachine, .mifStatus, .mifSmachine,
  .pcsMiistat, .pcsIstat, .pcsSstate]

/-- The three sub-status registers: no rule sets a bit of them (R45). -/
def subStatusRegs : List Reg := [.macTxstat, .macRxstat, .macCstat]

/-- The access classes of the registers are at least those of table T2: every register it gives a discarded
bus write is in `RO_SET`, and no register but a sub-status register is in `CLEAR_ON_READ` (R35, R140;
decisions D7, D9). -/
abbrev accessAsT2 (cfg : Cfg) : Prop :=
  (∀ r ∈ readOnlyRegs, r ∈ cfg.roSet) ∧ ∀ r ∈ cfg.clearOnRead, r ∈ subStatusRegs

/-- The largest value a ring cursor is ever given: the mask of the largest ring (R67 (vii)). -/
def largestMask (cfg : Cfg) : Nat := ringMinSlots * 2 ^ (2 ^ cfg.ringszBits - 1) - 1

/-- The invariants of R67, under a well-formed configuration with the access classes of table T2 and a reset
value of MIF_CFG that has its strap pattern; with them the canonical form of the two sparse stores. Clause
(iii) for the sub-status registers is `SubStatusClear`. -/
structure State.Inv (s : State) : Prop where
  cfgWellFormed : s.cfg.wellFormed = true
  cfgAccess : accessAsT2 s.cfg
  cfgStrap : s.cfg.resetMifCfg &&& (s.cfg.mifCfgClear ||| s.cfg.mifCfgSet) = s.cfg.mifCfgSet
  accBounded : s.txAcc.length ≤ s.cfg.txAccMax
  counterFieldClear : getReg s .gregStat &&& s.cfg.statTxnr = 0#32
  constantZero : ∀ r ∈ constantRegs, getReg s r = 0#32
  strap : getReg s .mifCfg &&& (s.cfg.mifCfgClear ||| s.cfg.mifCfgSet) = s.cfg.mifCfgSet
  irqLine : s.irq = irqLevel s.cfg (getReg s .gregStat) (getReg s .gregImask)
  pcieMaskNarrow : getReg s .gregPciemask &&& ~~~ s.cfg.pcieMaskAnd = 0#32
  minFszNarrow : getReg s .macMinfsz &&& ~~~ s.cfg.minFszAnd = 0#32
  txCursorBound : (getReg s .txdmaTxdone).toNat ≤ largestMask s.cfg
  rxCursorBound : (getReg s .rxdmaDone).toNat ≤ largestMask s.cfg
  memCanonical : Memory.wf s.mem = true
  wordsCanonical : wordsWf s.words = true

/-- The sub-status registers hold 0 (R45, R67 (iii)). -/
def State.SubStatusClear (s : State) : Prop := ∀ r ∈ subStatusRegs, getReg s r = 0#32

/-! ## What an operation leaves alone -/

/-- Every named register but those of the list is as before. -/
def RegsKept (rs : List Reg) (s t : State) : Prop := ∀ r, r ∉ rs → getReg t r = getReg s r

/-- Every unnamed word is as before. -/
def WordsKept (s t : State) : Prop := ∀ a, getWord t a = getWord s a

/-- Every byte of guest memory is as before. -/
def MemoryKept (s t : State) : Prop := ∀ a, readByte t.mem a = readByte s.mem a

/-- The transmit accumulator and the first control word are as before. -/
def AccumulatorKept (s t : State) : Prop := t.txAcc = s.txAcc ∧ t.txFirstCtl = s.txFirstCtl

/-- The configuration, the link flag and the requests still to come are as before. -/
def InputsKept (s t : State) : Prop :=
  t.cfg = s.cfg ∧ t.linkUp = s.linkUp ∧ t.requests = s.requests

/-- Nothing but the listed registers, the line, the result and the outputs may differ. -/
structure OnlyRegs (rs : List Reg) (s t : State) : Prop where
  regs : RegsKept rs s t
  words : WordsKept s t
  memory : MemoryKept s t
  accumulator : AccumulatorKept s t
  inputs : InputsKept s t

/-- The line is as before and there is no output. -/
def Silent (s t : State) : Prop := t.irq = s.irq ∧ t.trace = s.trace

/-- The line has the level its registers call for (R60, R199). -/
def LineSettled (s : State) : Prop :=
  s.irq = irqLevel s.cfg (getReg s .gregStat) (getReg s .gregImask)

/-- The outputs of the operation: those of the list, then the change of the line if it changed. -/
def OutputsThenLine (evs : List Event) (s t : State) : Prop :=
  t.trace = s.trace ++ evs ++ (if t.irq = s.irq then [] else [.irq t.irq])

/-! ## Completion -/

/-- No number of steps from the state ends in a fault (R305). -/
def RunSafe (s : State) : Prop := ∀ k f, Sys2Proof.core.run k s ≠ .fault f

end Sys2Proof.Machine
end

