-- ==== Sys2Proof/Certificates/Slice0/Obligations.lean ====
section
/-! DEFINITION. The statements for the provers, in the order of OBLIGATIONS.json. The tables and predicates
before them say in the terms of the registers what the rules say; the frames are those of
Sys2Proof/Safety.lean. A docstring names the rules; "decision D<n>" is an entry of
92_eei_decisions.md, the specification's own choice. -/

open Sys2Proof Sys2Proof.Machine

namespace Sys2Proof.Claims

/-! ## Rows of one shape (table T2) -/

/-- The reads that return the stored word, each with its register. -/
def storedReads : List (Instr × Reg) := [
  (.rdGregSebstate, .gregSebstate), (.rdGregImask, .gregImask), (.rdGregIack, .gregIack),
  (.rdGregPciestat, .gregPciestat), (.rdGregPciemask, .gregPciemask), (.rdGregSwrst, .gregSwrst),
  (.rdTxdmaKick, .txdmaKick), (.rdTxdmaCfg, .txdmaCfg), (.rdTxdmaDblow, .txdmaDblow),
  (.rdTxdmaDbhi, .txdmaDbhi), (.rdTxdmaPcnt, .txdmaPcnt), (.rdTxdmaSmachine, .txdmaSmachine),
  (.rdTxdmaDplow, .txdmaDplow), (.rdTxdmaDphi, .txdmaDphi), (.rdTxdmaTxdone, .txdmaTxdone),
  (.rdTxdmaFtag, .txdmaFtag), (.rdTxdmaFsz, .txdmaFsz), (.rdRxdmaCfg, .rxdmaCfg),
  (.rdRxdmaDblow, .rxdmaDblow), (.rdRxdmaDbhi, .rxdmaDbhi), (.rdRxdmaPcnt, .rxdmaPcnt),
  (.rdRxdmaSmachine, .rxdmaSmachine), (.rdRxdmaDplow, .rxdmaDplow), (.rdRxdmaDphi, .rxdmaDphi),
  (.rdRxdmaKick, .rxdmaKick), (.rdRxdmaDone, .rxdmaDone), (.rdRxdmaFtag, .rxdmaFtag),
  (.rdRxdmaFsz, .rxdmaFsz), (.rdMacTxrst, .macTxrst), (.rdMacRxrst, .macRxrst),
  (.rdMacTxmask, .macTxmask), (.rdMacRxmask, .macRxmask), (.rdMacMcmask, .macMcmask),
  (.rdMacTxcfg, .macTxcfg), (.rdMacRxcfg, .macRxcfg), (.rdMacXifcfg, .macXifcfg),
  (.rdMacMinfsz, .macMinfsz), (.rdMacMaxfsz, .macMaxfsz), (.rdMacAddr0, .macAddr0),
  (.rdMacAddr1, .macAddr1), (.rdMacAddr2, .macAddr2), (.rdMacAddr3, .macAddr3),
  (.rdMacAddr4, .macAddr4), (.rdMacAddr5, .macAddr5), (.rdMacHash0, .macHash0),
  (.rdMacHash1, .macHash1), (.rdMacHash2, .macHash2), (.rdMacHash3, .macHash3),
  (.rdMacHash4, .macHash4), (.rdMacHash5, .macHash5), (.rdMacHash6, .macHash6),
  (.rdMacHash7, .macHash7), (.rdMacHash8, .macHash8), (.rdMacHash9, .macHash9),
  (.rdMacHash10, .macHash10), (.rdMacHash11, .macHash11), (.rdMacHash12, .macHash12),
  (.rdMacHash13, .macHash13), (.rdMacHash14, .macHash14), (.rdMacHash15, .macHash15),
  (.rdMacPatmps, .macPatmps), (.rdMacSmachine, .macSmachine), (.rdMifFrame, .mifFrame),
  (.rdMifCfg, .mifCfg), (.rdMifStatus, .mifStatus), (.rdMifSmachine, .mifSmachine),
  (.rdPcsMiistat, .pcsMiistat), (.rdPcsIstat, .pcsIstat), (.rdPcsSstate, .pcsSstate)]

/-- The writes that are discarded, each with its register. -/
def discardedWrites : List ((Word → Instr) × Reg) := [
  (.wrGregSebstate, .gregSebstate), (.wrGregStat, .gregStat), (.wrGregStat2, .gregStat2),
  (.wrGregPciestat, .gregPciestat), (.wrTxdmaPcnt, .txdmaPcnt),
  (.wrTxdmaSmachine, .txdmaSmachine), (.wrTxdmaDplow, .txdmaDplow), (.wrTxdmaDphi, .txdmaDphi),
  (.wrTxdmaTxdone, .txdmaTxdone), (.wrTxdmaFtag, .txdmaFtag), (.wrTxdmaFsz, .txdmaFsz),
  (.wrRxdmaPcnt, .rxdmaPcnt), (.wrRxdmaSmachine, .rxdmaSmachine), (.wrRxdmaDplow, .rxdmaDplow),
  (.wrRxdmaDphi, .rxdmaDphi), (.wrRxdmaDone, .rxdmaDone), (.wrRxdmaFtag, .rxdmaFtag),
  (.wrRxdmaFsz, .rxdmaFsz), (.wrMacTxrst, .macTxrst), (.wrMacRxrst, .macRxrst),
  (.wrMacTxstat, .macTxstat), (.wrMacRxstat, .macRxstat), (.wrMacCstat, .macCstat),
  (.wrMacPatmps, .macPatmps), (.wrMacSmachine, .macSmachine), (.wrMifStatus, .mifStatus),
  (.wrMifSmachine, .mifSmachine), (.wrPcsMiistat, .pcsMiistat), (.wrPcsIstat, .pcsIstat),
  (.wrPcsSstate, .pcsSstate)]

/-- The writes that store the word and do nothing else, each with its register. -/
def plainStores : List ((Word → Instr) × Reg) := [
  (.wrTxdmaCfg, .txdmaCfg), (.wrTxdmaDblow, .txdmaDblow), (.wrTxdmaDbhi, .txdmaDbhi),
  (.wrRxdmaCfg, .rxdmaCfg), (.wrRxdmaDblow, .rxdmaDblow), (.wrRxdmaDbhi, .rxdmaDbhi),
  (.wrRxdmaKick, .rxdmaKick), (.wrMacTxcfg, .macTxcfg), (.wrMacRxcfg, .macRxcfg),
  (.wrMacXifcfg, .macXifcfg), (.wrMacMaxfsz, .macMaxfsz), (.wrMacAddr0, .macAddr0),
  (.wrMacAddr1, .macAddr1), (.wrMacAddr2, .macAddr2), (.wrMacAddr3, .macAddr3),
  (.wrMacAddr4, .macAddr4), (.wrMacAddr5, .macAddr5), (.wrMacHash0, .macHash0),
  (.wrMacHash1, .macHash1), (.wrMacHash2, .macHash2), (.wrMacHash3, .macHash3),
  (.wrMacHash4, .macHash4), (.wrMacHash5, .macHash5), (.wrMacHash6, .macHash6),
  (.wrMacHash7, .macHash7), (.wrMacHash8, .macHash8), (.wrMacHash9, .macHash9),
  (.wrMacHash10, .macHash10), (.wrMacHash11, .macHash11), (.wrMacHash12, .macHash12),
  (.wrMacHash13, .macHash13), (.wrMacHash14, .macHash14), (.wrMacHash15, .macHash15)]

/-- The reads and writes of the words no register is named at, each with the offset as operand. -/
def storageRows : List ((Word → Instr) × (Word → Word → Instr)) :=
  [(.rdPlainWord, .wrPlainWord), (.rdWolWord, .wrWolWord)]

/-- The registers MAC_HASH0 to MAC_HASH15 in order. -/
def hashRegs : List Reg := [.macHash0, .macHash1, .macHash2, .macHash3, .macHash4, .macHash5,
  .macHash6, .macHash7, .macHash8, .macHash9, .macHash10, .macHash11, .macHash12, .macHash13,
  .macHash14, .macHash15]

/-- The management reads with a row of their own, each with its transceiver register. -/
def phyRows : List ((Word → Instr) × Nat) := [(.phyreg0Control, 0), (.phyreg1Status, 1),
  (.phyreg2IdentifierHigh, 2), (.phyreg3IdentifierLow, 3), (.phyreg4Advertisement, 4),
  (.phyreg5LinkPartner, 5), (.phyreg24Auxiliary, 24)]

/-! ## Access classes of the registers (R140, R141) -/

/-- A bus write of the register with the effect `effect`, which `RO_SET` discards (R35, R141). -/
def WriteDone (r : Reg) (effect : State → Prop) (s t : State) : Prop :=
  t.result = .none ∧ (r ∈ s.cfg.roSet → OnlyRegs [] s t ∧ Silent s t) ∧ (r ∉ s.cfg.roSet → effect t)

/-- A bus write that only stores, discarded for a register of `RO_SET` (R33, R35, R141). -/
def StoreDone (r : Reg) (v : Word) (s t : State) : Prop :=
  WriteDone r (fun t => getReg t r = v ∧ OnlyRegs [r] s t ∧ Silent s t) s t

/-- A bus read that returns the stored word: it changes nothing, but for a register of `CLEAR_ON_READ`, which
keeps only the bits of `kept`, and whose aggregate bit, if it has one, is cleared (R140, R164 to R166). -/
def ReadDone (r : Reg) (kept aggregate : Word) (s t : State) : Prop :=
  t.result = .word (getReg s r) ∧
    (r ∉ s.cfg.clearOnRead → OnlyRegs [] s t ∧ Silent s t) ∧
    (r ∈ s.cfg.clearOnRead → getReg t r = getReg s r &&& kept ∧
      getReg t .gregStat = getReg s .gregStat &&& ~~~ aggregate ∧
      OnlyRegs [r, .gregStat] s t ∧ LineSettled t ∧ OutputsThenLine [] s t)

/-! ## What the resets leave -/

/-- The receive registers after `ResetRx` (R341). -/
def RxAtReset (t : State) : Prop :=
  getReg t .rxdmaFsz = t.cfg.resetRxdmaFsz ∧ getReg t .rxdmaDone = 0#32 ∧
    getReg t .rxdmaKick = 0#32 ∧ getReg t .rxdmaCfg = t.cfg.resetRxdmaCfg

/-- The transmit registers and the accumulator after `ResetTx` (R342). -/
def TxAtReset (t : State) : Prop :=
  getReg t .txdmaFsz = t.cfg.resetTxdmaFsz ∧ getReg t .txdmaTxdone = 0#32 ∧
    getReg t .txdmaKick = 0#32 ∧ getReg t .txdmaCfg = t.cfg.resetTxdmaCfg ∧
    t.txAcc = [] ∧ t.txFirstCtl = 0#64

/-- The registers of the receive reset. -/
def rxResetRegs : List Reg := [.rxdmaFsz, .rxdmaDone, .rxdmaKick, .rxdmaCfg]

/-- The registers of the transmit reset. -/
def txResetRegs : List Reg := [.txdmaFsz, .txdmaTxdone, .txdmaKick, .txdmaCfg]

/-- What a receive reset does and leaves alone (R341). -/
def RxResetDone (s t : State) : Prop :=
  RxAtReset t ∧ OnlyRegs rxResetRegs s t ∧ Silent s t

/-- What a transmit reset does and leaves alone (R342). -/
def TxResetDone (s t : State) : Prop :=
  TxAtReset t ∧ RegsKept txResetRegs s t ∧ WordsKept s t ∧ MemoryKept s t ∧ InputsKept s t ∧
    Silent s t

/-- What `ResetAll` does whatever its argument (R343). -/
def AllAtReset (t : State) : Prop :=
  RxAtReset t ∧ TxAtReset t ∧ getReg t .gregImask = t.cfg.resetImask ∧
    getReg t .gregStat = 0#32 ∧ getReg t .mifCfg = t.cfg.resetMifCfg ∧ t.irq = false

/-- What `ResetAll(false)` does, starting from a state whose GREG_SWRST holds `v` (R343). -/
def SoftResetAllDone (v : Word) (s t : State) : Prop :=
  AllAtReset t ∧ getReg t .gregSwrst = v &&& s.cfg.swrstRstout ∧
    RegsKept (rxResetRegs ++ txResetRegs ++ [.gregImask, .gregStat, .gregSwrst, .mifCfg]) s t ∧
    WordsKept s t ∧ MemoryKept s t ∧ InputsKept s t ∧ OutputsThenLine [] s t

/-- What `ResetAll(true)` does (R343). -/
def BusResetDone (s t : State) : Prop :=
  AllAtReset t ∧ getReg t .gregSwrst = 0#32 ∧
    getReg t .macAddr0 = (s.cfg.macAddr.b4.setWidth 32 <<< 8) ||| s.cfg.macAddr.b5.setWidth 32 ∧
    getReg t .macAddr1 = (s.cfg.macAddr.b2.setWidth 32 <<< 8) ||| s.cfg.macAddr.b3.setWidth 32 ∧
    getReg t .macAddr2 = (s.cfg.macAddr.b0.setWidth 32 <<< 8) ||| s.cfg.macAddr.b1.setWidth 32 ∧
    RegsKept (rxResetRegs ++ txResetRegs ++ [.gregImask, .gregStat, .gregSwrst, .mifCfg,
      .macAddr0, .macAddr1, .macAddr2]) s t ∧
    WordsKept s t ∧ MemoryKept s t ∧ InputsKept s t ∧ OutputsThenLine [] s t

/-- What a bus write of `v` to GREG_SWRST does, by the reset its two request bits ask for (R154). -/
def SoftResetDone (v : Word) (s t : State) : Prop :=
  match swrstKind s.cfg v with
  | .all => SoftResetAllDone v s t
  | .rx => getReg t .gregSwrst = v ∧ RxAtReset t ∧ OnlyRegs (.gregSwrst :: rxResetRegs) s t ∧ Silent s t
  | .tx => getReg t .gregSwrst = v ∧ TxAtReset t ∧ RegsKept (.gregSwrst :: txResetRegs) s t ∧
      WordsKept s t ∧ MemoryKept s t ∧ InputsKept s t ∧ Silent s t
  | .none => getReg t .gregSwrst = v ∧ OnlyRegs [.gregSwrst] s t ∧ Silent s t

/-! ## The aggregator -/

/-- The three aggregate bits say what their sub-status and sub-mask registers say (R193 to R195). -/
def AggregatesCurrent (t : State) : Prop :=
  getReg t .gregStat &&& t.cfg.statTxMac =
      (if getReg t .macTxstat &&& ~~~ getReg t .macTxmask ≠ 0#32 then t.cfg.statTxMac else 0#32) ∧
    getReg t .gregStat &&& t.cfg.statRxMac =
      (if getReg t .macRxstat &&& ~~~ getReg t .macRxmask ≠ 0#32 then t.cfg.statRxMac else 0#32) ∧
    getReg t .gregStat &&& t.cfg.statMac =
      (if getReg t .macCstat &&& ~~~ t.cfg.cstatExcl &&& ~~~ getReg t .macMcmask ≠ 0#32 then
        t.cfg.statMac else 0#32)

/-- The bits of a status word that are not aggregate bits. -/
def otherStatus (cfg : Cfg) (v : Word) : Word := v &&& ~~~ (cfg.statTxMac ||| cfg.statRxMac ||| cfg.statMac)

/-- The outputs of `Cascade()`: changes of the line only, at most three (R192). -/
def AtMostThreeLineChanges (s t : State) : Prop :=
  ∃ levels : List Bool, levels.length ≤ 3 ∧ t.trace = s.trace ++ levels.map Event.irq

/-- What `Cascade()` does to the status word and the line (R192). -/
def Cascaded (s t : State) : Prop :=
  AggregatesCurrent t ∧ otherStatus s.cfg (getReg t .gregStat) = otherStatus s.cfg (getReg s .gregStat) ∧
    LineSettled t ∧ AtMostThreeLineChanges s t

/-! ## Management frames -/

/-- The result word of the management frame `v` (R211 to R218). -/
def frameResult (s : State) (v : Word) : Word :=
  if mifTag s.cfg v ≠ s.cfg.mifStValid then 0xFFFFFFFF#32
  else if mifOpcode s.cfg v = 1#32 then v ||| s.cfg.mifAck
  else if mifOpcode s.cfg v = 2#32 then
    (phyRead s.cfg s.linkUp (mifPhy s.cfg v) (mifReg s.cfg v)).setWidth 32 ||| s.cfg.mifAck
  else 0xFFFFFFFF#32

/-- The events of the management frame `v` (R213, R214, R302). -/
def frameEvents (s : State) (v : Word) : List Event :=
  if mifTag s.cfg v ≠ s.cfg.mifStValid then [.log (.miiInvalidStart (mifTag s.cfg v))]
  else if mifOpcode s.cfg v = 1#32 ∨ mifOpcode s.cfg v = 2#32 then []
  else [.log (.miiInvalidOp (mifOpcode s.cfg v))]

/-- What a bus write of the management frame `v` to MIF_FRAME does (R177, R211 to R218). -/
def ManagementDone (v : Word) (s t : State) : Prop :=
  WriteDone .mifFrame (fun t => getReg t .mifFrame = frameResult s v ∧ OnlyRegs [.mifFrame] s t ∧
    t.irq = s.irq ∧ t.trace = s.trace ++ frameEvents s v) s t

/-- The default values of the transceiver registers (R216, decision D25). -/
def phyDefault (linkUp : Bool) (reg : Nat) : Word :=
  match reg with
  | 1 => if linkUp then 0x402C#32 else 0x4008#32
  | 2 => 0x0040#32
  | 3 => 0x6210#32
  | 4 => 0x0100#32
  | 5 => 0x0100#32
  | 24 => 0x0003#32
  | _ => 0#32

/-! ## Transmit -/

/-- The accumulator a descriptor finds: empty after a start of frame (R237). -/
def accBefore (s : State) (ctl : DWord) : List Byte :=
  if anySet ctl s.cfg.txdSof then [] else s.txAcc

/-- The first control word of the frame a descriptor belongs to (R237). -/
def firstOf (s : State) (ctl : DWord) : DWord :=
  if anySet ctl s.cfg.txdSof then ctl else s.txFirstCtl

/-- How many bytes a descriptor adds: its length, clamped (R238). -/
def addedLength (s : State) (ctl : DWord) : Nat :=
  min (field ctl s.cfg.txdBufsz).toNat (s.cfg.txAccMax - (accBefore s ctl).length)

/-- The accumulator with the payload of a descriptor (R239). -/
def accAfter (s : State) (ctl : DWord) (buf : Addr) : List Byte :=
  accBefore s ctl ++ readBytes s.mem buf (addedLength s ctl)

/-- The checksum of a frame goes inside it (R244). -/
abbrev checksumFits (len start off : Nat) : Prop := 2 ≤ len ∧ start ≤ len - 2 ∧ off ≤ len - 2

/-- `frame` is `acc` with the checksum the first control word asks for (R240, R244, R245). -/
def Checksummed (cfg : Cfg) (first : DWord) (acc frame : List Byte) : Prop :=
  let start := (field first cfg.txdCstart).toNat
  let off := (field first cfg.txdCoff).toNat
  let sum := checksum cfg (acc.drop start)
  frame.length = acc.length ∧
    (first &&& cfg.txdCenab = 0#64 ∨ ¬ checksumFits acc.length start off → frame = acc) ∧
    (first &&& cfg.txdCenab ≠ 0#64 → checksumFits acc.length start off →
      frame[off]? = some ((sum >>> 8).setWidth 8) ∧ frame[off + 1]? = some (sum.setWidth 8) ∧
        ∀ k, k ≠ off → k ≠ off + 1 → frame[k]? = acc[k]?)

/-- The frame handed to the loopback path or to the send sink (R243). -/
def handedOn (s : State) (frame : List Byte) : Event :=
  if getReg s .macXifcfg &&& s.cfg.macXifcfgLbck ≠ 0#32 then .loopback frame else .send frame

/-- The frame of an event that hands one on. -/
def frameOf : Event → Option (List Byte)
  | .send f => some f
  | .loopback f => some f
  | _ => none

/-- The frames a list of descriptors makes, from the accumulator and first control word given, with
what is left in assembly (R117, R236 to R242). -/
def assemble (cfg : Cfg) (mem : Memory) :
    List Byte → DWord → List (DWord × Addr) → List (List Byte) × List Byte × DWord
  | acc, first, [] => ([], acc, first)
  | acc, first, (ctl, buf) :: ds =>
    let acc0 := if ctl &&& cfg.txdSof ≠ 0#64 then [] else acc
    let first0 := if ctl &&& cfg.txdSof ≠ 0#64 then ctl else first
    let acc1 := acc0 ++ readBytes mem buf (min (txdLen cfg ctl) (cfg.txAccMax - acc0.length))
    if ctl &&& cfg.txdEof ≠ 0#64 then
      let frame :=
        if first0 &&& cfg.txdCenab ≠ 0#64 ∧
            txChecksumFits acc1.length (txdCsumStart cfg first0) (txdCsumOff cfg first0) = true then
          insertChecksum cfg acc1 (txdCsumStart cfg first0) (txdCsumOff cfg first0)
        else acc1
      let rest := assemble cfg mem [] 0#64 ds
      (frame :: rest.1, rest.2)
    else assemble cfg mem acc1 first0 ds

/-- How many descriptors a kick covers: from the completion cursor up to the kick cursor, modulo the
ring (R233, R354). -/
def kickRun (s : State) : Nat := ((getReg s .txdmaKick - getReg s .txdmaTxdone) &&& txMask s).toNat

/-- The descriptors a kick covers, in ring order, as guest memory holds them (R234). -/
def kickDescriptors (s : State) : List (DWord × Addr) :=
  (List.range (kickRun s)).map fun k =>
    let slot := (txCursor s + BitVec.ofNat 32 k) &&& txMask s
    let raw := readBytes s.mem (slotAddr (txBase s) slot) 16
    (descWord0 s.cfg.descOrder raw, descWord1 s.cfg.descOrder raw)

/-- The rows that may move the transmit completion cursor (R36). -/
def movesTxCursor : Instr → Bool
  | .wrTxdmaKick _ | .kick | .txd _ _ | .wrGregSwrst _ | .swrstAll _ | .swrstTx _ | .busReset
  | .resetTx | .resetAll _ => true
  | _ => false

/-- The rows that may move the receive done cursor (R37). -/
def movesRxCursor : Instr → Bool
  | .deliver _ | .rxdStatus _ _ | .wrGregSwrst _ | .swrstAll _ | .swrstRx _ | .busReset
  | .resetRx | .resetAll _ => true
  | _ => false

/-- The rows that may change the frame in assembly (R56, R57). -/
def touchesAccumulator : Instr → Bool
  | .wrTxdmaKick _ | .kick | .txd _ _ | .wrGregSwrst _ | .swrstAll _ | .swrstTx _ | .busReset
  | .resetTx | .resetAll _ => true
  | _ => false

/-- The rows that may store to guest memory (R71, R88). -/
def storesToMemory : Instr → Bool
  | .deliver _ | .rxdStatus _ _ => true
  | _ => false

/-! ## Receive -/

/-- The frame is stored: enabled, right size, matched, ring not full (R262). -/
def Accepted (s : State) (f : List Byte) : Prop :=
  rxEnabled s = true ∧ s.cfg.rxMinLen ≤ f.length ∧ f.length + s.cfg.trailer ≤ maxFrame s ∧
    classify s (macOfBytes (padFrame f)) (addressCheck s.cfg ((padFrame f).take 6)) ≠ .noMatch ∧
    rxFull s = false

/-- The match result of a frame (R268, R270). -/
def matchOf (s : State) (f : List Byte) : AddrMatch :=
  classify s (macOfBytes (padFrame f)) (addressCheck s.cfg ((padFrame f).take 6))

/-- Nothing but the result and one log record differs. -/
def OnlyLogged (record : LogRecord) (s t : State) : Prop :=
  OnlyRegs [] s t ∧ t.irq = s.irq ∧ t.trace = s.trace ++ [.log record]

/-- The address `a` is none of the `n` bytes from `b` on. -/
def outside (a b : Addr) (n : Nat) : Prop := ∀ k < n, a ≠ b + BitVec.ofNat 64 k

/-! ## Data words -/

/-- The bytes are of a row of the source: every byte sequence is, but for the data words of MIF_FRAME, of
which a management frame has a row by its valid tag and opcode 0 to 3 or by its invalid tag 0, 2 or 3,
and a transceiver register is selected by a valid read frame (R112, R114, R216). -/
def hasRow (cfg : Cfg) (src : Source) (bytes : List Byte) : Prop :=
  let v := fromLE 32 bytes
  (src = .port .mif →
    (mifTag cfg v = cfg.mifStValid → mifOpcode cfg v ∈ [0#32, 1#32, 2#32, 3#32]) ∧
      (mifTag cfg v ≠ cfg.mifStValid → mifTag cfg v ∈ [0#32, 2#32, 3#32])) ∧
    (src = .port .phySelect → mifTag cfg v = cfg.mifStValid ∧ mifOpcode cfg v = 2#32)

end Sys2Proof.Claims

open Sys2Proof.Claims

/-! ## Encoding -/

/-- Decoding the encoding of a well-formed instruction gives it back, for every instruction that has an
encoding and every well-formed configuration (R100 to R114). -/
def Obligations.DecodeOfEncode : Prop :=
  ∀ (cfg : Cfg) (i : Instr) (src : Source) (bytes : List Byte), cfg.wellFormed = true →
    i.wellFormed cfg = true → encode cfg i = some (src, bytes) → decode cfg src bytes = .ok i

/-- Encoding what was decoded gives the bytes back: no two byte sequences of one source mean the same
instruction. A word presented as a management row it is not is decoded to the write of MIF_FRAME that carries
it (R100 to R112; the framing of requests and the sources of the data words are the model's choice, log
entries 1 and 26). -/
def Obligations.EncodeOfDecode : Prop :=
  ∀ (cfg : Cfg) (i : Instr) (src : Source) (bytes : List Byte), cfg.wellFormed = true →
    decode cfg src bytes = .ok i →
    (hasRow cfg src bytes → encode cfg i = some (src, bytes)) ∧
    (¬ hasRow cfg src bytes → bytes.length = 4 ∧ i = .wrMifFrame (fromLE 32 bytes))

/-- What is decoded from a port or fetched by an engine is well-formed: its operands lie in its row of
the opcode table. -/
def Obligations.DecodedIsWellFormed : Prop :=
  ∀ (cfg : Cfg) (i : Instr) (src : Source) (bytes : List Byte), cfg.wellFormed = true →
    src ≠ .rxStatus → decode cfg src bytes = .ok i → i.wellFormed cfg = true

/-- The internal procedures, and nothing else, have no encoding. That the procedures have none is log entry
10 (R22); that `CanAccept`, `Deliver`, `BusReset` and `SetLink`, to which R100 gives no bit encoding, have
one here is the model's choice, the framing of requests of log entry 1. -/
def Obligations.OnlyInternalProceduresHaveNoEncoding : Prop :=
  ∀ (cfg : Cfg) (i : Instr), encode cfg i = none ↔
    i = .kick ∨ i = .evaluate ∨ i = .cascade ∨ (∃ v, i = .ack v) ∨ (∃ bits on, i = .setStatus bits on) ∨
      (∃ v, i = .miiOp v) ∨ (∃ dst crc, i = .classify dst crc) ∨ i = .resetRx ∨ i = .resetTx ∨
      ∃ b, i = .resetAll b

/-- Words written out from the encoding tables decode to the instructions they stand for: the fields are those
of R101, R106, R112 and R154 in the byte order of R80, at the default positions of decisions D2, D13, D24
and D28 (log entry 6). That a request is four offset bytes and then the data bytes is the model's choice
(log entry 1), and so are the sources of the data words (log entry 26). -/
def Obligations.WrittenOutWordsDecode : Prop :=
  decode defaultCfg (.port (.busRead 4)) [0x0C#8, 0x00#8, 0x00#8, 0x00#8] = .ok .rdGregStat ∧
    decode defaultCfg (.port (.busWrite 4))
      [0x00#8, 0x20#8, 0x00#8, 0x00#8, 0x02#8, 0x00#8, 0x00#8, 0x00#8] =
        .ok (.wrTxdmaKick 0x00000002#32) ∧
    decode defaultCfg (.port (.busRead 4)) [0x14#8, 0x30#8, 0x00#8, 0x00#8] =
        .ok (.rdUnmapped 0x3014#32) ∧
    decode defaultCfg (.port .mif) [0x00#8, 0x00#8, 0x0A#8, 0x60#8] = .ok (.mifRead 0x600A0000#32) ∧
    decode defaultCfg (.port .swrst) [0x03#8, 0x00#8, 0x00#8, 0x00#8] = .ok (.swrstAll 0x00000003#32) ∧
    decode defaultCfg .txDescriptor
      [0x2E#8, 0x00#8, 0x00#8, 0x40#8, 0x00#8, 0x00#8, 0x00#8, 0x00#8,
        0x00#8, 0x00#8, 0x20#8, 0x00#8, 0x00#8, 0x00#8, 0x00#8, 0x00#8] =
        .ok (.txd 0x000000004000002E#64 0x0000000000200000#64)

/-- An offset lies in at most one bank; its index is counted in words from the base of that bank, and an
offset no bank covers is unmapped; the register named at it is the one whose offset it is (R102). -/
def Obligations.OffsetSelectsOneBankAndIndex : Prop :=
  ∀ (cfg : Cfg) (a : Nat), cfg.wellFormed = true →
    (∀ b ∈ cfg.banks, ∀ c ∈ cfg.banks, bankCovers b a = true → bankCovers c a = true → b = c) ∧
      (∀ b ∈ cfg.banks, bankCovers b a = true →
        decodeOffset cfg a = some (b.name, (a - b.base) / 4)) ∧
      ((∀ b ∈ cfg.banks, bankCovers b a = false) → decodeOffset cfg a = none) ∧
      ∀ r, regAt cfg a = some r ↔ offsetOf cfg r = a

/-! ## The step -/

/-- Without a request a step changes nothing; a request that decodes is run: step is exec of the decoded
instruction on the state without the request, and taking the request off changes nothing else (R22,
R23; how requests are framed is the model's, log entry 1; the step without a request is log entry
21). -/
def Obligations.StepRunsDecodedInstruction : Prop :=
  ∀ s : State, (s.requests = [] → step s = .next s) ∧
    ∀ (p : Port) (bytes : List Byte) (rest : List Request) (i : Instr),
      s.requests = .op p bytes :: rest → decode s.cfg (.port p) bytes = .ok i →
      step s = exec i (setRequests s rest) ∧
        setRequests s rest = { s with requests := rest }

/-- A store of the guest to its own memory changes the stored bytes and nothing of the block (R93,
R322). -/
def Obligations.GuestStoreChangesOnlyItsBytes : Prop :=
  ∀ (s : State) (a : Addr) (bytes : List Byte) (rest : List Request),
    s.requests = .guestStore a bytes :: rest → bytes.length ≤ 2 ^ 64 →
    ∃ t, step s = .next t ∧ (∀ k (h : k < bytes.length), readByte t.mem (a + BitVec.ofNat 64 k) = bytes[k]) ∧
      (∀ x, outside x a bytes.length → readByte t.mem x = readByte s.mem x) ∧
      RegsKept [] s t ∧ WordsKept s t ∧ AccumulatorKept s t ∧ Silent s t ∧ t.linkUp = s.linkUp ∧
      t.cfg = s.cfg ∧ t.requests = rest

/-- Event E12: a bus access that is not four bytes wide, not aligned, or outside the register space never
reaches the block (R86, R302; decision D11; that an offset beyond the space is refused is log entry
17). -/
def Obligations.BusAccessRefused : Prop :=
  ∀ (s : State) (size : Nat) (off : Word) (data : List Byte) (rest : List Request),
    size ≠ 4 ∨ off.toNat % 4 ≠ 0 ∨ s.cfg.spaceBytes ≤ off.toNat →
    (s.requests = .op (.busRead size) (toLE 4 off) :: rest →
        step s = .refused (.busRefused off.toNat size)) ∧
      (data.length = size → s.requests = .op (.busWrite size) (toLE 4 off ++ data) :: rest →
        step s = .refused (.busRefused off.toNat size))

/-- No instruction stops, in any state, with any operands (R142, R305, R325). -/
def Obligations.NoInstructionStops : Prop := ∀ (i : Instr) (s : State), ∃ t, exec i s = .next t

/-! ## Bus reads -/

/-- The 69 reads of table T2 that have no read rule return the stored word, and by default none of them has a
side effect; a register that a configuration puts in `CLEAR_ON_READ` besides (which is log entry 14) is
cleared by the read and nothing else is (R33, R89, R140). -/
def Obligations.StoredReadsReturnTheWord : Prop :=
  (∀ p ∈ storedReads, p.2 ∉ defaultCfg.clearOnRead) ∧
    ∀ p ∈ storedReads, ∀ s : State, ∃ t, exec p.1 s = .next t ∧ ReadDone p.2 0#32 0#32 s t

/-- A read of GREG_STAT: the value with the completion cursor in the counter field, as the bits were
before the latched ones are cleared; the line may fall and never rises; a second read shows no latched
bit (R146; decisions D4, D5). -/
def Obligations.StatusReadClearsLatchedBits : Prop :=
  ∀ s : State, ∃ t, exec .rdGregStat s = .next t ∧
    t.result = .word ((getReg s .gregStat &&& ~~~ s.cfg.statTxnr) |||
      ((getReg s .txdmaTxdone <<< s.cfg.statTxnrShift) &&& s.cfg.statTxnr)) ∧
    getReg t .gregStat = getReg s .gregStat &&& ~~~ s.cfg.statLatch ∧
    OnlyRegs [.gregStat] s t ∧ LineSettled t ∧ OutputsThenLine [] s t ∧
    (LineSettled s → t.irq = true → s.irq = true) ∧
    ∃ u w, exec .rdGregStat t = .next u ∧ u.result = .word w ∧
      w &&& s.cfg.statLatch &&& ~~~ s.cfg.statTxnr = 0#32

/-- A read of GREG_STAT2 returns what a read of GREG_STAT would and changes nothing (R148; decision
D6). -/
def Obligations.StatusMirrorReadChangesNothing : Prop :=
  ∀ s : State, ∃ t u, exec .rdGregStat2 s = .next t ∧ exec .rdGregStat s = .next u ∧
    t.result = u.result ∧ OnlyRegs [] s t ∧ Silent s t

/-- A read of a sub-status register, which is in `CLEAR_ON_READ` by default, returns it, clears it (MAC_CSTAT
outside the excluded sub-field) and its aggregate bit, and settles the line; left out of the set it is a plain
read (R164 to R166; decision D9). -/
def Obligations.SubStatusReadsClear : Prop :=
  (∀ r ∈ subStatusRegs, r ∈ defaultCfg.clearOnRead) ∧ ∀ s : State,
    (∃ t, exec .rdMacTxstat s = .next t ∧ ReadDone .macTxstat 0#32 s.cfg.statTxMac s t) ∧
    (∃ t, exec .rdMacRxstat s = .next t ∧ ReadDone .macRxstat 0#32 s.cfg.statRxMac s t) ∧
    (∃ t, exec .rdMacCstat s = .next t ∧ ReadDone .macCstat s.cfg.cstatExcl s.cfg.statMac s t)

/-- An offset outside every bank: a read returns all ones, a write does nothing, each with event E1
(R143, R144). -/
def Obligations.UnmappedOffsetsAreHarmless : Prop :=
  ∀ (s : State) (off v : Word),
    (busReaches s.cfg 4 off.toNat = true → decodeOffset s.cfg off.toNat = none →
      decode s.cfg (.port (.busRead 4)) (toLE 4 off) = .ok (.rdUnmapped off) ∧
        decode s.cfg (.port (.busWrite 4)) (toLE 4 off ++ toLE 4 v) = .ok (.wrUnmapped off v)) ∧
    (∃ t, exec (.rdUnmapped off) s = .next t ∧ t.result = .word 0xFFFFFFFF#32 ∧
      OnlyLogged (.decodeFailureRead off) s t) ∧
    (∃ t, exec (.wrUnmapped off v) s = .next t ∧ OnlyLogged (.decodeFailureWrite off v) s t)

/-- An offset inside a bank that names no register is plain storage, the wake-on-LAN words among them: a
write stores all 32 bits, a read returns them, nothing else happens (R145). -/
def Obligations.UnnamedWordsAreStorage : Prop :=
  ∀ (s : State) (off v : Word),
    (busReaches s.cfg 4 off.toNat = true → (decodeOffset s.cfg off.toNat).isSome = true →
      regAt s.cfg off.toNat = none → ∃ p ∈ storageRows,
        decode s.cfg (.port (.busRead 4)) (toLE 4 off) = .ok (p.1 off) ∧
          decode s.cfg (.port (.busWrite 4)) (toLE 4 off ++ toLE 4 v) = .ok (p.2 off v)) ∧
    ∀ p ∈ storageRows,
      (∃ t, exec (p.1 off) s = .next t ∧ t.result = .word (getWord s off.toNat) ∧ OnlyRegs [] s t ∧
        Silent s t) ∧
      ∃ t u, exec (p.2 off v) s = .next t ∧ getWord t off.toNat = v ∧
        (∀ a, a ≠ off.toNat → getWord t a = getWord s a) ∧ RegsKept [] s t ∧ MemoryKept s t ∧
        AccumulatorKept s t ∧ InputsKept s t ∧ Silent s t ∧
        exec (p.1 off) t = .next u ∧ u.result = .word v

/-! ## Bus writes -/

/-- A write of a register of `RO_SET` changes nothing: no store, no evaluation, no event; by default these are
the 30 registers of table T2 whose write is discarded, and left out of the set each of them is plain storage
(R35, R141, R147, R149, R167; decision D7). -/
def Obligations.DiscardedWritesChangeNothing : Prop :=
  (∀ r, r ∈ defaultCfg.roSet ↔ r ∈ discardedWrites.map Prod.snd) ∧
    (∀ (r : Reg) (v : Word) (s : State), r ∈ s.cfg.roSet → ∃ t, exec (wrInstr v r) s = .next t ∧
      t.result = .none ∧ OnlyRegs [] s t ∧ Silent s t) ∧
    ∀ p ∈ discardedWrites, ∀ (v : Word) (s : State), ∃ t, exec (p.1 v) s = .next t ∧
      StoreDone p.2 v s t

/-- The writes of table T2 that only store: the register holds all 32 bits of the data word, nothing
else changes (R33, R156, R157, R159 to R161, R169 to R171, R173 to R175); discarded if the configuration puts
the register in `RO_SET`. -/
def Obligations.PlainStoresStoreTheWord : Prop :=
  ∀ p ∈ plainStores, ∀ (v : Word) (s : State), ∃ t, exec (p.1 v) s = .next t ∧ StoreDone p.2 v s t

/-- The write-masked registers hold the data word under the mask, nothing else changes (R153, R172, R178;
decision D8); discarded if the configuration puts the register in `RO_SET`. -/
def Obligations.MaskedStoresStoreUnderTheMask : Prop :=
  ∀ (v : Word) (s : State),
    (∃ t, exec (.wrGregPciemask v) s = .next t ∧ StoreDone .gregPciemask (v &&& s.cfg.pcieMaskAnd) s t) ∧
    (∃ t, exec (.wrMacMinfsz v) s = .next t ∧ StoreDone .macMinfsz (v &&& s.cfg.minFszAnd) s t) ∧
    (∃ t, exec (.wrMifCfg v) s = .next t ∧
      StoreDone .mifCfg ((v &&& ~~~ s.cfg.mifCfgClear) ||| s.cfg.mifCfgSet) s t)

/-- A read of GREG_IMASK returns the stored word, a write stores the word and evaluates the line; no flag
changes (R150; the access classes are those of the configuration, by default neither set has GREG_IMASK). What
a read does where a configuration puts GREG_IMASK in `CLEAR_ON_READ` (cleared, the line evaluated) is the
model's choice, log entry 14. -/
def Obligations.InterruptMaskWriteEvaluates : Prop :=
  (Reg.gregImask ∉ defaultCfg.roSet ∧ Reg.gregImask ∉ defaultCfg.clearOnRead) ∧ ∀ (v : Word) (s : State),
    (∃ t, exec .rdGregImask s = .next t ∧ ReadDone .gregImask 0#32 0#32 s t) ∧
    ∃ t, exec (.wrGregImask v) s = .next t ∧ WriteDone .gregImask (fun t => getReg t .gregImask = v ∧
      OnlyRegs [.gregImask] s t ∧ LineSettled t ∧ OutputsThenLine [] s t) s t

/-- The acknowledge: `Ack` clears the named latched bits of GREG_STAT, evaluates the line and never stores; a
write of GREG_IACK does the same (R198; the access class of GREG_IACK is that of the configuration, by
default it is not in `RO_SET`). -/
def Obligations.AcknowledgeClearsLatchedBits : Prop :=
  Reg.gregIack ∉ defaultCfg.roSet ∧ ∀ (v : Word) (s : State),
    let acknowledged := fun t => getReg t .gregStat = getReg s .gregStat &&& ~~~ (v &&& s.cfg.statLatch) ∧
      OnlyRegs [.gregStat] s t ∧ LineSettled t ∧ OutputsThenLine [] s t
    (∃ t, exec (.ack v) s = .next t ∧ acknowledged t) ∧
      ∃ t, exec (.wrGregIack v) s = .next t ∧ WriteDone .gregIack acknowledged s t

/-- A write of one sub-mask register stores the word and derives all three aggregate bits again, leaving
the other status bits alone (R168, R192 to R195). -/
def Obligations.SubMaskWritesDeriveAggregates : Prop :=
  ∀ (v : Word) (s : State), s.cfg.wellFormed = true →
    ∀ p ∈ [(Instr.wrMacTxmask v, Reg.macTxmask), (.wrMacRxmask v, .macRxmask),
      (.wrMacMcmask v, .macMcmask)], ∃ t, exec p.1 s = .next t ∧
        WriteDone p.2 (fun t => getReg t p.2 = v ∧ OnlyRegs [p.2, .gregStat] s t ∧ Cascaded s t) s t

/-- A write of GREG_SWRST, and each row of its data word, does the reset its request bits ask for: both
bits a full reset that leaves only the reset-output bit, one bit a single-sided reset that leaves the
word as written, none only the store (R154; read-back decision D28). That a row SWRST.* means the whole bus
write with its store is the model's choice, log entry 26. -/
def Obligations.SoftwareResetByRequestBits : Prop :=
  ∀ (v : Word) (s : State),
    (∃ t, exec (.wrGregSwrst v) s = .next t ∧ WriteDone .gregSwrst (SoftResetDone v s) s t) ∧
    (∀ p ∈ [(Instr.swrstAll v, SwrstKind.all), (.swrstRx v, .rx), (.swrstTx v, .tx),
      (.swrstNone v, .none)], swrstKind s.cfg v = p.2 →
        ∃ t, exec p.1 s = .next t ∧ WriteDone .gregSwrst (SoftResetDone v s) s t) ∧
    swrstKind defaultCfg v = (if v.getLsbD 0 then (if v.getLsbD 1 then .all else .tx)
      else if v.getLsbD 1 then .rx else .none)

/-- A write of TXDMA_KICK stores all 32 bits and runs `Kick()` on the state with the word stored
(R155). -/
def Obligations.KickWriteStoresThenKicks : Prop :=
  ∀ (v : Word) (s : State), ∃ t, exec (.wrTxdmaKick v) s = .next t ∧
    WriteDone .txdmaKick (fun t => ∃ s1, getReg s1 .txdmaKick = v ∧ OnlyRegs [.txdmaKick] s s1 ∧
      Silent s s1 ∧ exec .kick s1 = .next t ∧ getReg t .txdmaKick = v) s t

/-- A bus access that reaches the block does what the pipelines of `BusRead` and `BusWrite` say, for every
offset (R140, R141; the stages are written out in Sys2Proof/Machine/BusAccess.lean). What the read stage does to
a register that a configuration puts in `CLEAR_ON_READ` besides the sub-status registers is the model's choice,
log entry 14. -/
def Obligations.BusAccessFollowsTheStages : Prop :=
  ∀ (s : State) (off v : Word), s.cfg.wellFormed = true → busReaches s.cfg 4 off.toNat = true →
    (∃ i, decode s.cfg (.port (.busRead 4)) (toLE 4 off) = .ok i ∧
      exec i s = .next (setResult (busRead s off).2 (.word (busRead s off).1))) ∧
    (∃ i, decode s.cfg (.port (.busWrite 4)) (toLE 4 off ++ toLE 4 v) = .ok i ∧
      exec i s = .next (setResult (busWrite s off v) .none))

/-- A written word reads back, with exactly the exceptions the rule lists: the registers of `RO_SET`, the
acknowledge, the write-masked registers, MIF_FRAME and GREG_SWRST; GREG_STAT and GREG_STAT2, whose read has
a rule of its own, are registers of `RO_SET` by default (R182). -/
def Obligations.WrittenWordReadsBack : Prop :=
  ∀ (s t u : State) (r : Reg) (v : Word), exec (wrInstr v r) s = .next t →
    exec (rdInstr r) t = .next u →
    (r ∈ s.cfg.roSet → ∀ w, exec (rdInstr r) s = .next w → u.result = w.result) ∧
    (r ∉ s.cfg.roSet →
      (r ∉ [Reg.gregStat, .gregStat2, .gregIack, .mifCfg, .gregPciemask, .macMinfsz, .mifFrame,
        .gregSwrst] → u.result = .word v) ∧
      (r = .gregIack → u.result = .word (getReg s .gregIack)) ∧
      (r = .mifCfg → u.result = .word ((v &&& ~~~ s.cfg.mifCfgClear) ||| s.cfg.mifCfgSet)) ∧
      (r = .gregPciemask → u.result = .word (v &&& s.cfg.pcieMaskAnd)) ∧
      (r = .macMinfsz → u.result = .word (v &&& s.cfg.minFszAnd)) ∧
      (r = .mifFrame → ∀ w, exec (.miiOp v) s = .next w → u.result = w.result) ∧
      (r = .gregSwrst → u.result =
        .word (if swrstKind s.cfg v = .all then v &&& s.cfg.swrstRstout else v)))

/-! ## Rings and checksum -/

/-- Ring arithmetic with the source's 3-bit field: the eight sizes, the mask, a cursor modulo the size,
the slot after the last is slot 0 (R17, R39). -/
def Obligations.RingArithmetic : Prop :=
  ∀ (cfg : Cfg) (c slot : Word), cfg.ringszBits = 3 →
    ringSize cfg c ∈ [32, 64, 128, 256, 512, 1024, 2048, 4096] ∧
      (ringMask cfg c).toNat + 1 = ringSize cfg c ∧
      (slot &&& ringMask cfg c).toNat = slot.toNat % ringSize cfg c ∧
      (advance (ringMask cfg c) slot).toNat = (slot.toNat + 1) % ringSize cfg c

/-- The default checksum is the complement of the one's-complement sum: the sum of the bytes and the checksum
make a multiple of 65535; of the empty sequence it is 0xFFFF (R19, decision D17). -/
def Obligations.ChecksumComplementsTheSum : Prop :=
  (∀ b : List Byte, (csumSum b + (csum16 b).toNat) % 65535 = 0) ∧ csum16 [] = 0xFFFF#16 ∧
    ∀ b, checksum defaultCfg b = csum16 b

/-! ## The interrupt aggregator -/

/-- `Evaluate()`: the line is asserted exactly when an unmasked status bit outside the completion-counter
field is set; no register changes, nothing is saved; doing it again changes nothing (R191). -/
def Obligations.EvaluateSetsTheLine : Prop :=
  ∀ s : State, ∃ t u, exec .evaluate s = .next t ∧
    t.irq = decide ((getReg s .gregStat &&& ~~~ s.cfg.statTxnr) &&& ~~~ getReg s .gregImask ≠ 0#32) ∧
    OnlyRegs [] s t ∧ OutputsThenLine [] s t ∧
    exec .evaluate t = .next u ∧ OnlyRegs [] t u ∧ Silent t u

/-- `SetStatus(bits, on)` sets or clears the bits, touches no other register and evaluates the line
(R200). -/
def Obligations.SetStatusSetsOrClears : Prop :=
  ∀ (bits : Word) (on : Bool) (s : State), ∃ t, exec (.setStatus bits on) s = .next t ∧
    getReg t .gregStat =
      (if on = true then getReg s .gregStat ||| bits else getReg s .gregStat &&& ~~~ bits) ∧
    OnlyRegs [.gregStat] s t ∧ LineSettled t ∧ OutputsThenLine [] s t

/-- `Cascade()`: each aggregate bit is set exactly when some bit of its sub-status is set and not masked,
else cleared; the other status bits are left alone (R193, R194, R195). -/
def Obligations.CascadeDerivesAggregates : Prop :=
  ∀ s : State, s.cfg.wellFormed = true → ∃ t, exec .cascade s = .next t ∧
    OnlyRegs [.gregStat] s t ∧ Cascaded s t

/-- A status bit that appears is one of the named ones, and never the receive tag error, unless a caller
of `SetStatus` names it (R41, R200), where the bus does not write GREG_STAT (R147, decision D7). -/
def Obligations.OnlyNamedStatusBitsAppear : Prop :=
  ∀ (i : Instr) (s t : State), s.cfg.wellFormed = true → .gregStat ∈ s.cfg.roSet →
    i.wellFormed s.cfg = true → exec i s = .next t →
    getReg t .gregStat &&& ~~~ getReg s .gregStat &&& ~~~ s.cfg.namedStatus = 0#32 ∧
      ((∀ bits on, i ≠ .setStatus bits on) →
        getReg t .gregStat &&& ~~~ getReg s .gregStat &&& s.cfg.statRxTagErr = 0#32)

/-! ## The transceiver stub -/

/-- A write of MIF_FRAME, and each row of its data word: an invalid tag or opcode gives all ones with its
event, a write frame is echoed with the acknowledgement, a read frame gives the transceiver register
with the acknowledgement; only MIF_FRAME changes (R211 to R217; decisions D24, D25). That a row MIF.* means
the whole bus write to MIF_FRAME, store included, is the model's choice, log entry 26. -/
def Obligations.ManagementFrameResult : Prop :=
  ∀ (v : Word) (s : State),
    (∃ t, exec (.wrMifFrame v) s = .next t ∧ ManagementDone v s t) ∧
    (mifTag s.cfg v = s.cfg.mifStValid →
      (mifOpcode s.cfg v = 1#32 → ∃ t, exec (.mifWrite v) s = .next t ∧ ManagementDone v s t) ∧
      (mifOpcode s.cfg v = 2#32 → ∃ t, exec (.mifRead v) s = .next t ∧ ManagementDone v s t) ∧
      (mifOpcode s.cfg v = 0#32 → ∃ t, exec (.mifBadOp0 v) s = .next t ∧ ManagementDone v s t) ∧
      (mifOpcode s.cfg v = 3#32 → ∃ t, exec (.mifBadOp3 v) s = .next t ∧ ManagementDone v s t)) ∧
    (mifTag s.cfg v ≠ s.cfg.mifStValid →
      (mifTag s.cfg v = 0#32 → ∃ t, exec (.mifBadTag0 v) s = .next t ∧ ManagementDone v s t) ∧
      (mifTag s.cfg v = 2#32 → ∃ t, exec (.mifBadTag2 v) s = .next t ∧ ManagementDone v s t) ∧
      (mifTag s.cfg v = 3#32 → ∃ t, exec (.mifBadTag3 v) s = .next t ∧ ManagementDone v s t))

/-- A management read by its register index: what the write of the frame does, and under the default table
the value of that register, all ones from another bus address (R216, R218; decision D25). That a row PHYREG
is the whole management write is the model's choice, log entry 26; what the row for the other indices does
with a listed index is log entry 29. -/
def Obligations.TransceiverRegisterReads : Prop :=
  ∀ (v : Word) (s : State), mifTag s.cfg v = s.cfg.mifStValid → mifOpcode s.cfg v = 2#32 →
    (∀ p ∈ phyRows, mifReg s.cfg v = p.2 → ∃ t, exec (p.1 v) s = .next t ∧ ManagementDone v s t) ∧
    (∃ t, exec (.phyregOther v) s = .next t ∧ ManagementDone v s t) ∧
    (s.cfg.phyTable = defaultPhyTable → frameResult s v =
      (if mifPhy s.cfg v = s.cfg.phyAddr.toNat then phyDefault s.linkUp (mifReg s.cfg v)
        else 0xFFFF#32) ||| s.cfg.mifAck)

/-- `MiiOp` by itself returns the result of the frame, with its events; no register changes (R211). -/
def Obligations.MiiOpReturnsTheStoredWord : Prop :=
  ∀ (v : Word) (s : State), ∃ t, exec (.miiOp v) s = .next t ∧ t.result = .word (frameResult s v) ∧
    OnlyRegs [] s t ∧ t.irq = s.irq ∧ t.trace = s.trace ++ frameEvents s v

/-- `SetLink` sets the link flag and nothing else (R221; decision D39). -/
def Obligations.SetLinkSetsOnlyTheFlag : Prop :=
  ∀ (b : Bool) (s : State), ∃ t, exec (.setLink b) s = .next t ∧ t.linkUp = b ∧ RegsKept [] s t ∧
    WordsKept s t ∧ MemoryKept s t ∧ AccumulatorKept s t ∧ t.cfg = s.cfg ∧ t.requests = s.requests ∧
    Silent s t

/-! ## The transmit engine -/

/-- A kick with either enable clear changes no state, performs no DMA, sets no status bit and raises only
event E2 (R231). -/
def Obligations.DisabledKickDoesNothing : Prop :=
  ∀ s : State, (getReg s .txdmaCfg &&& s.cfg.dmacfgEnable = 0#32 ∨
      getReg s .macTxcfg &&& s.cfg.macTxcfgEnab = 0#32) →
    ∃ t, exec .kick s = .next t ∧ OnlyLogged .txDisabled s t

/-- After an enabled kick the completion cursor has reached the kick cursor, "all transmitted" is set, and
"descriptor completion" if there was a descriptor; nothing but GREG_STAT, the cursor and the
accumulator changes (R248, R250). -/
def Obligations.KickRunsUpToTheKickCursor : Prop :=
  ∀ s : State, s.cfg.ringszBits = 3 → txEnabled s = true →
    ∃ t, exec .kick s = .next t ∧
      getReg t .txdmaTxdone &&& txMask s = getReg s .txdmaKick &&& txMask s ∧
      (kickRun s = 0 → getReg t .gregStat = getReg s .gregStat ||| s.cfg.statTxAll ∧
        OnlyRegs [.gregStat] s t ∧ OutputsThenLine [] s t) ∧
      (kickRun s ≠ 0 → getReg t .txdmaTxdone = getReg s .txdmaKick &&& txMask s ∧
        getReg t .gregStat = getReg s .gregStat ||| s.cfg.statTxDone |||
          (if (kickDescriptors s).any (fun d => anySet d.1 s.cfg.txdIntme) = true then s.cfg.statTxIntme
            else 0#32) ||| s.cfg.statTxAll) ∧
      RegsKept [.gregStat, .txdmaTxdone] s t ∧ WordsKept s t ∧ MemoryKept s t ∧ InputsKept s t ∧
      LineSettled t

/-- An enabled kick is frame assembly over the descriptors it covers: the frames handed on, in order, and
what stays in assembly are those of `assemble` on the run of descriptors in guest memory (R117, R233 to
R243, R250). -/
def Obligations.KickAssemblesTheRun : Prop :=
  ∀ s : State, s.cfg.ringszBits = 3 → txEnabled s = true →
    ∃ t outputs, exec .kick s = .next t ∧ t.trace = s.trace ++ outputs ∧
      (outputs.filterMap frameOf, t.txAcc, t.txFirstCtl) =
        assemble s.cfg s.mem s.txAcc s.txFirstCtl (kickDescriptors s)

/-- One transmit descriptor: the accumulator and the first control word, the completion bits, the cursor,
and what it leaves alone (R237 to R241, R246, R247). That the row TXD means one turn of the loop of `Kick()`
on the slot the completion cursor selects is the model's choice, log entry 11. -/
def Obligations.TxDescriptorEffect : Prop :=
  ∀ (ctl : DWord) (buf : Addr) (s : State), ∃ t, exec (.txd ctl buf) s = .next t ∧
    t.txAcc = (if ctl &&& s.cfg.txdEof ≠ 0#64 then [] else accAfter s ctl buf) ∧
    t.txFirstCtl = (if ctl &&& s.cfg.txdEof ≠ 0#64 then 0#64 else firstOf s ctl) ∧
    getReg t .gregStat = getReg s .gregStat |||
      (if ctl &&& s.cfg.txdIntme ≠ 0#64 then s.cfg.statTxDone ||| s.cfg.statTxIntme
        else s.cfg.statTxDone) ∧
    getReg t .txdmaTxdone = ((getReg s .txdmaTxdone &&& txMask s) + 1#32) &&& txMask s ∧
    RegsKept [.gregStat, .txdmaTxdone] s t ∧ WordsKept s t ∧ MemoryKept s t ∧ InputsKept s t ∧
    LineSettled t

/-- The outputs of one transmit descriptor, in order: the events, the one payload read, at the end of a
frame the frame with its checksum to the sink or the loopback path, then the change of the line (R94,
R237 to R245). That the row TXD means one turn of the loop of `Kick()` is the model's choice, log entry
11. -/
def Obligations.TxDescriptorOutputs : Prop :=
  ∀ (ctl : DWord) (buf : Addr) (s : State), ∃ t frame, exec (.txd ctl buf) s = .next t ∧
    Checksummed s.cfg (firstOf s ctl) (accAfter s ctl buf) frame ∧
    OutputsThenLine
      ((if ctl &&& s.cfg.txdSof ≠ 0#64 ∧ s.txAcc ≠ [] then [.log (.txUnfinishedFrame s.txAcc.length)]
          else []) ++
        (if (accBefore s ctl).length + (field ctl s.cfg.txdBufsz).toNat > s.cfg.txAccMax then
          [.log (.txOverflow (field ctl s.cfg.txdBufsz).toNat (addedLength s ctl))] else []) ++
        (if addedLength s ctl = 0 then [] else [.dmaRead buf (addedLength s ctl)]) ++
        (if ctl &&& s.cfg.txdEof = 0#64 then [] else
          (if firstOf s ctl &&& s.cfg.txdCenab ≠ 0#64 ∧
              ¬ checksumFits (accAfter s ctl buf).length (txdCsumStart s.cfg (firstOf s ctl))
                (txdCsumOff s.cfg (firstOf s ctl)) then
            [.log (.txChecksumOutOfBounds (txdCsumStart s.cfg (firstOf s ctl))
              (txdCsumOff s.cfg (firstOf s ctl)) (accAfter s ctl buf).length)] else []) ++
          [handedOn s frame])) s t

/-! ## The receive engine -/

/-- `CanAccept()`: both enables set and the ring not full; nothing changes (R260, R261; both cursors
masked, conflict C1). -/
def Obligations.CanAcceptAnswersBackpressure : Prop :=
  ∀ s : State, ∃ t, exec .canAccept s = .next t ∧ OnlyRegs [] s t ∧ Silent s t ∧
    t.result = .flag (decide (getReg s .macRxcfg &&& s.cfg.macRxcfgEnab ≠ 0#32 ∧
      getReg s .rxdmaCfg &&& s.cfg.dmacfgEnable ≠ 0#32 ∧
      getReg s .rxdmaKick &&& rxMask s ≠ ((getReg s .rxdmaDone &&& rxMask s) + 1#32) &&& rxMask s))

/-- The classifier in its order of priority: promiscuous, broadcast, accept-all-multicast, hash lookup,
primary, alternate; a group address never matches a station address (R270 to R276; layout decisions
D20, D21). -/
def Obligations.ClassifierPriority : Prop :=
  ∀ (a : MacAddr) (crc : Word) (s : State), ∃ t m, exec (.classify a crc) s = .next t ∧
    t.result = .addrMatch m ∧ OnlyRegs [] s t ∧ Silent s t ∧
    let prom := getReg s .macRxcfg &&& s.cfg.macRxcfgProm ≠ 0#32
    let broadcast := a = ⟨0xFF#8, 0xFF#8, 0xFF#8, 0xFF#8, 0xFF#8, 0xFF#8⟩
    let group := a.b0 &&& 1#8 ≠ 0#8
    let pgrp := getReg s .macRxcfg &&& s.cfg.macRxcfgPgrp ≠ 0#32
    let lookup := s.cfg.hashGated = false ∨ getReg s .macRxcfg &&& s.cfg.macRxcfgHfe ≠ 0#32
    let key := (crc >>> 24).toNat
    let entry := ∃ r, hashRegs[key / 16]? = some r ∧ (getReg s r >>> (15 - key % 16)) &&& 1#32 = 1#32
    let halves := ((a.b4.setWidth 32 <<< 8) ||| a.b5.setWidth 32,
      (a.b2.setWidth 32 <<< 8) ||| a.b3.setWidth 32, (a.b0.setWidth 32 <<< 8) ||| a.b1.setWidth 32)
    let primary := halves = (getReg s .macAddr0, getReg s .macAddr1, getReg s .macAddr2)
    let alternate := halves = (getReg s .macAddr3, getReg s .macAddr4, getReg s .macAddr5)
    (prom → m = .promiscuous) ∧ (¬ prom → broadcast → m = .broadcast) ∧
      (¬ prom → ¬ broadcast → group → pgrp → m = .allMulticast) ∧
      (¬ prom → ¬ broadcast → group → ¬ pgrp → lookup ∧ entry → m = .hashMulticast) ∧
      (¬ prom → ¬ broadcast → group → ¬ pgrp → ¬ (lookup ∧ entry) → m = .noMatch) ∧
      (¬ prom → ¬ group → primary → m = .primaryUnicast) ∧
      (¬ prom → ¬ group → ¬ primary → alternate → m = .altUnicast) ∧
      (¬ prom → ¬ group → ¬ primary → ¬ alternate → m = .noMatch)

/-- A frame that is dropped (path disabled, bad size, no match, in this order) is fully consumed and has no
effect but its log record (R263, R264, R277; the bounds of the size check are those of R266 for whatever
constants the configuration has). -/
def Obligations.DroppedFramesHaveNoEffect : Prop :=
  ∀ (f : List Byte) (s : State),
    let bad := f.length < s.cfg.rxMinLen ∨
      f.length + s.cfg.trailer > (getReg s .macMaxfsz &&& s.cfg.maxFszMask).toNat
    (rxEnabled s = false → ∃ t, exec (.deliver f) s = .next t ∧ t.result = .count f.length ∧
      OnlyLogged .rxDisabled s t) ∧
    (rxEnabled s = true → bad → ∃ t, exec (.deliver f) s = .next t ∧ t.result = .count f.length ∧
      OnlyLogged (.rxBadSize f.length) s t) ∧
    (rxEnabled s = true → ¬ bad → matchOf s f = .noMatch → ∃ t, exec (.deliver f) s = .next t ∧
      t.result = .count f.length ∧ OnlyLogged .rxUnmatched s t)

/-- The ring is full: a frame that passed the checks is refused, nothing consumed and nothing changed; one
that an earlier check drops is consumed all the same (R278). -/
def Obligations.FullRingRefusesTheFrame : Prop :=
  ∀ (f : List Byte) (s : State), rxFull s = true →
    (rxEnabled s = true ∧ s.cfg.rxMinLen ≤ f.length ∧ f.length + s.cfg.trailer ≤ maxFrame s ∧
        matchOf s f ≠ .noMatch →
      ∃ t, exec (.deliver f) s = .next t ∧ t.result = .count 0 ∧ OnlyLogged .rxRingFull s t) ∧
    (rxEnabled s = false ∨ f.length < s.cfg.rxMinLen ∨ maxFrame s < f.length + s.cfg.trailer ∨
        matchOf s f = .noMatch →
      ∃ t, exec (.deliver f) s = .next t ∧ t.result = .count f.length ∧ OnlyRegs [] s t)

/-- A short frame is padded with zero bytes up to the floor, a longer one is left as it is (R267). -/
def Obligations.ShortFramesArePadded : Prop :=
  ∀ f : List Byte, (padFrame f).length = max f.length 60 ∧
    (∀ k, k < f.length → (padFrame f)[k]? = f[k]?) ∧
    ∀ k, f.length ≤ k → k < 60 → (padFrame f)[k]? = some 0#8

/-- A stored frame: the padded bytes lie at the buffer address, the slot holds the status word and its
buffer word as fetched, no other byte of memory changes; the cursor has advanced, the completion bits
are set, with "no buffers" if the ring is now full; the result is the original length (R267, R268, R279
to R285; decisions D20 to D23, D42). -/
def Obligations.StoredFrameIsInMemory : Prop :=
  ∀ (f : List Byte) (s : State), Accepted s f →
    ∃ t, exec (.deliver f) s = .next t ∧ t.result = .count f.length ∧
      let g := padFrame f
      let slot := rxSlotAddr s
      let buf := descWord1 s.cfg.descOrder (readBytes s.mem slot 16)
      let addr := rxBufferAddr s.cfg (getReg s .rxdmaCfg) buf
      let status := rxStatusWord s.cfg (rxChecksum s.cfg (getReg s .rxdmaCfg) g) g.length
        (addressCheck s.cfg (g.take 6)) (matchOf s f == .hashMulticast) (matchOf s f == .altUnicast)
      readBytes t.mem slot 16 = descBytesOf s.cfg.descOrder status buf ∧
      readBytes t.mem (slot + 8#64) 8 = readBytes s.mem (slot + 8#64) 8 ∧
      (∀ k (h : k < g.length), outside (addr + BitVec.ofNat 64 k) slot 16 →
        readByte t.mem (addr + BitVec.ofNat 64 k) = g[k]) ∧
      (∀ x, outside x slot 16 → outside x addr g.length → readByte t.mem x = readByte s.mem x) ∧
      getReg t .rxdmaDone = ((getReg s .rxdmaDone &&& rxMask s) + 1#32) &&& rxMask s ∧
      getReg t .gregStat = getReg s .gregStat |||
        (if rxFull t = true then s.cfg.statRxDone ||| s.cfg.statRxNoBuf else s.cfg.statRxDone) ∧
      RegsKept [.gregStat, .rxdmaDone] s t ∧ WordsKept s t ∧ AccumulatorKept s t ∧ InputsKept s t ∧
      LineSettled t ∧
      OutputsThenLine [.dmaRead slot 16, .dmaWrite addr g,
        .dmaWrite slot (descBytesOf s.cfg.descOrder status buf)] s t

/-- The fields of the status word written back, at the default positions (R109; decision D14). -/
def Obligations.RxStatusWordFields : Prop :=
  ∀ (csum : Half) (len : Nat) (crc : Word) (hash alt : Bool),
    let w := rxStatusWord defaultCfg csum len crc hash alt
    w.extractLsb' 0 16 = csum ∧ w.extractLsb' 16 15 = BitVec.ofNat 15 (len + 4) ∧
      w.getLsbD 31 = false ∧ w.extractLsb' 32 12 = 0#12 ∧ w.extractLsb' 44 16 = crc.extractLsb' 16 16 ∧
      w.getLsbD 60 = hash ∧ w.getLsbD 61 = alt ∧ w.extractLsb' 62 2 = 0#2

/-- A posted receive descriptor gives the buffer address: the status word is ignored, the low bits of the
buffer word are replaced by the first-byte offset (R108, R280; decision D22; that the row means this
much of `Deliver` is log entry 11). -/
def Obligations.PostedDescriptorGivesTheAddress : Prop :=
  ∀ (status buf : DWord) (s : State), ∃ t, exec (.rxdPosted status buf) s = .next t ∧
    t.result = .address ((buf &&& ~~~ s.cfg.rxBufAlign) |||
      (field (getReg s .rxdmaCfg) s.cfg.rxcfgFboff).setWidth 64) ∧ OnlyRegs [] s t ∧ Silent s t

/-- A receive descriptor written back: its 16 bytes over the slot of the done cursor and no other byte, the
cursor advanced, the completion bits set (R283, R284; that the row means this much of `Deliver` is log
entry 11). -/
def Obligations.WriteBackCompletesTheSlot : Prop :=
  ∀ (status buf : DWord) (s : State), ∃ t, exec (.rxdStatus status buf) s = .next t ∧
    readBytes t.mem (rxSlotAddr s) 16 = descBytesOf s.cfg.descOrder status buf ∧
    (∀ x, outside x (rxSlotAddr s) 16 → readByte t.mem x = readByte s.mem x) ∧
    getReg t .rxdmaDone = ((getReg s .rxdmaDone &&& rxMask s) + 1#32) &&& rxMask s ∧
    getReg t .gregStat = getReg s .gregStat |||
      (if rxFull t = true then s.cfg.statRxDone ||| s.cfg.statRxNoBuf else s.cfg.statRxDone) ∧
    RegsKept [.gregStat, .rxdmaDone] s t ∧ WordsKept s t ∧ AccumulatorKept s t ∧ InputsKept s t ∧
    LineSettled t

/-! ## Reset -/

/-- `ResetRx` reinitialises the four receive registers, `ResetTx` the four transmit registers and the frame
in assembly; neither writes anything else: not the status, not the line (R341, R342). -/
def Obligations.SingleSidedResets : Prop :=
  ∀ s : State, (∃ t, exec .resetRx s = .next t ∧ RxResetDone s t) ∧
    ∃ t, exec .resetTx s = .next t ∧ TxResetDone s t

/-- `ResetAll`, in both forms, and the bus reset, which is `ResetAll(true)`: what each writes, that no other
register changes, and that the line is low (R343, R345; the final evaluation is decision D10). -/
def Obligations.FullReset : Prop :=
  ∀ s : State, (∃ t, exec (.resetAll false) s = .next t ∧ SoftResetAllDone (getReg s .gregSwrst) s t) ∧
    (∃ t, exec (.resetAll true) s = .next t ∧ BusResetDone s t) ∧
    ∃ t, exec .busReset s = .next t ∧ BusResetDone s t

/-- After power-on the registers a reset writes hold their reset values, every other register and unnamed
word is 0, no frame is in assembly, the line is low, nothing was output; the same state is what
construction gives, and no model is built with an ill-formed configuration (R10, R64, R346; decisions
D26, D27; the station address and the link flag are log entries 5 and 4). -/
def Obligations.ResetState : Prop :=
  construct defaultCfg false [] = .next State.reset ∧ AllAtReset State.reset ∧
    getReg State.reset .macAddr0 = 0x3456#32 ∧ getReg State.reset .macAddr1 = 0x0012#32 ∧
    getReg State.reset .macAddr2 = 0x5254#32 ∧
    (∀ r, r ∉ [Reg.rxdmaFsz, .rxdmaCfg, .txdmaFsz, .txdmaCfg, .gregImask, .mifCfg, .macAddr0, .macAddr1,
      .macAddr2] → getReg State.reset r = 0#32) ∧
    (∀ a, getWord State.reset a = 0#32) ∧ State.reset.trace = [] ∧
    ∀ (cfg : Cfg) (linkUp : Bool) (mem : Memory), cfg.wellFormed = false →
      construct cfg linkUp mem = .refused .illFormedConfiguration

/-! ## Invariants and whole-machine rules -/

/-- The invariants of R67 hold right after reset. -/
def Obligations.InvariantAtReset : Prop := State.Inv State.reset

/-- Every step keeps the invariants of R67: the bounds of the accumulator and the cursors, the registers
that stay 0, the strap bits, the write-masked registers, the line at the level its registers call for, and
the canonical form of memory (R67, R199). -/
def Obligations.StepKeepsInvariant : Prop :=
  ∀ s t : State, s.Inv → step s = .next t → t.Inv

/-- The sub-status registers stay 0 where the bus does not write them: no rule sets a bit of them (R45, R67
(iii), R167). -/
def Obligations.SubStatusStaysClear : Prop :=
  State.SubStatusClear State.reset ∧
    ∀ s t : State, (∀ r ∈ subStatusRegs, r ∈ s.cfg.roSet) → s.SubStatusClear → step s = .next t → t.SubStatusClear

/-- Only the receive engine stores to guest memory (R71, R88). -/
def Obligations.OnlyReceiveStoresToMemory : Prop :=
  ∀ (i : Instr) (s t : State), exec i s = .next t → storesToMemory i = false → MemoryKept s t

/-- The two engine-owned cursors, where the bus cannot change them (decisions D7, D9), move only in their own
engine and in the resets that name them; the frame in assembly changes only in the transmit engine and in
its reset (R36, R37, R57, R317). -/
def Obligations.EnginesOwnTheirCursors : Prop :=
  ∀ (i : Instr) (s t : State), exec i s = .next t →
    (.txdmaTxdone ∈ s.cfg.roSet → .txdmaTxdone ∉ s.cfg.clearOnRead → movesTxCursor i = false →
        getReg t .txdmaTxdone = getReg s .txdmaTxdone) ∧
      (.rxdmaDone ∈ s.cfg.roSet → .rxdmaDone ∉ s.cfg.clearOnRead → movesRxCursor i = false →
        getReg t .rxdmaDone = getReg s .rxdmaDone) ∧
      (touchesAccumulator i = false → AccumulatorKept s t)

/-- No instruction changes the configuration or the requests still to come, and none but `SetLink` the link
flag (R9, R61). -/
def Obligations.EnvironmentOwnsTheInputs : Prop :=
  ∀ (i : Instr) (s t : State), exec i s = .next t →
    t.cfg = s.cfg ∧ t.requests = s.requests ∧ ((∀ b, i ≠ .setLink b) → t.linkUp = s.linkUp)

/-- The outputs so far and the last result are not architectural: a state that differs only there runs every
instruction to the same registers, words, accumulator, line, memory and result, with the same new outputs
(R301). -/
def Obligations.LogIsNotArchitectural : Prop :=
  ∀ (i : Instr) (s : State) (log : List Event) (res : Result),
    ∃ t u outputs, exec i s = .next t ∧ exec i { s with trace := log, result := res } = .next u ∧
      t.trace = s.trace ++ outputs ∧ u = { t with trace := log ++ outputs }
end

