-- ==== Sys2Proof/Laws/AddressMap.lean ====
section
/-! SUPPORT. What well-formedness of a configuration says about the address map (R10, R86, R102). -/
namespace Sys2Proof.Laws

open Sys2Proof.Machine

theorem mem_all (r : Reg) : r ∈ Reg.all := by cases r <;> decide

/-- A named register of a well-formed configuration: where it lies, and what its offset selects. -/
theorem register_placed {cfg : Cfg} (h : cfg.wellFormed = true) (r : Reg) :
    (decodeOffset cfg (offsetOf cfg r)).map Prod.fst = some (bankOf r) ∧
      offsetOf cfg r % 4 = 0 ∧ regAt cfg (offsetOf cfg r) = some r := by
  simp only [Cfg.wellFormed, Bool.and_eq_true] at h
  have hr := List.all_eq_true.mp h.1.1.1.2 r (mem_all r)
  simp only [Bool.and_eq_true, beq_iff_eq] at hr
  exact ⟨hr.1.1, hr.1.2, hr.2⟩

theorem space_le {cfg : Cfg} (h : cfg.wellFormed = true) : cfg.spaceBytes ≤ 2 ^ 32 := by
  simp only [Cfg.wellFormed, Cfg.sizesFit, Bool.and_eq_true, decide_eq_true_eq] at h
  exact h.2.2

/-- An offset a bank covers lies inside the register space. -/
theorem decoded_lt {cfg : Cfg} (h : cfg.wellFormed = true) {a : Nat} {x : BankName × Nat}
    (ha : decodeOffset cfg a = some x) : a < cfg.spaceBytes := by
  simp only [Cfg.wellFormed, Bool.and_eq_true] at h
  have hb := h.1.1.1.1.1
  simp only [decodeOffset, Option.map_eq_some_iff] at ha
  obtain ⟨b, hf, -⟩ := ha
  have hc := List.find?_some hf
  have := List.all_eq_true.mp hb b (List.mem_of_find?_eq_some hf)
  simp only [bankCovers, Bool.and_eq_true, decide_eq_true_eq] at hc this
  omega

theorem offset_lt {cfg : Cfg} (h : cfg.wellFormed = true) (r : Reg) :
    offsetOf cfg r < cfg.spaceBytes := by
  have hd := (register_placed h r).1
  cases hx : decodeOffset cfg (offsetOf cfg r) with
  | none => simp [hx] at hd
  | some x => exact decoded_lt h hx

theorem toNat_offset {cfg : Cfg} (h : cfg.wellFormed = true) (r : Reg) :
    (BitVec.ofNat 32 (offsetOf cfg r)).toNat = offsetOf cfg r := by
  have h1 := offset_lt h r
  have h2 := space_le h
  rw [BitVec.toNat_ofNat, Nat.mod_eq_of_lt (by omega)]

/-- The offset of a named register selects that register (R102, R103). -/
theorem placeOf_offset {cfg : Cfg} (h : cfg.wellFormed = true) (r : Reg) :
    placeOf cfg (offsetOf cfg r) = .named r := by
  obtain ⟨hd, -, hr⟩ := register_placed h r
  cases hx : decodeOffset cfg (offsetOf cfg r) with
  | none => simp [hx] at hd
  | some x => simp [placeOf, hx, hr]

/-- An access to a named register reaches the block (R86). -/
theorem busReaches_offset {cfg : Cfg} (h : cfg.wellFormed = true) (r : Reg) :
    busReaches cfg accessBytes (offsetOf cfg r) = true := by
  have := offset_lt h r
  have := (register_placed h r).2.1
  simp [busReaches, accessBytes] at *
  omega

end Sys2Proof.Laws
end

