-- ==== Sys2Proof/Laws/Sparse.lean ====
section
/-! SUPPORT. The laws of the sparse store: a read after a write, and the canonical form. -/
namespace Sys2Proof.Laws

open Sys2Proof.Machine

variable {α : Type}

theorem sparseGet_erase (d : α) (k k' : Nat) (m : List (Nat × α)) :
    sparseGet d (sparseErase k m) k' = if k = k' then d else sparseGet d m k' := by
  induction m with
  | nil => simp [sparseErase, sparseGet]
  | cons e m ih =>
    obtain ⟨a, v⟩ := e
    have ih : sparseGet d (List.filter (fun e => e.1 != k) m) k' =
        if k = k' then d else sparseGet d m k' := ih
    by_cases hak : a = k
    · subst hak
      simp only [sparseErase, List.filter, bne_self_eq_false, ih, sparseGet]
      split <;> rfl
    · have : (a != k) = true := by simpa using hak
      simp only [sparseErase, List.filter, this, sparseGet, ih]
      split
      · next h => subst h; rw [if_neg (Ne.symm hak)]
      · rfl

theorem sparseGet_insert (d : α) (k : Nat) (v : α) (k' : Nat) (m : List (Nat × α))
    (h : sparseGet d m k = d) (hk : ∀ e ∈ m, e.1 ≠ k) :
    sparseGet d (sparseInsert k v m) k' = if k = k' then v else sparseGet d m k' := by
  induction m with
  | nil => rfl
  | cons e m ih =>
    obtain ⟨a, w⟩ := e
    have hak : a ≠ k := hk (a, w) (by simp)
    simp only [sparseGet, if_neg hak] at h
    simp only [sparseInsert]
    split
    · rfl
    · simp only [sparseGet, ih h fun e he => hk e (by simp [he])]
      split
      · next hb => subst hb; rw [if_neg (Ne.symm hak)]
      · rfl

/-- A read of any key after a write. -/
@[simp] theorem sparseGet_set [DecidableEq α] (d : α) (k : Nat) (v : α) (k' : Nat)
    (m : List (Nat × α)) :
    sparseGet d (sparseSet d k v m) k' = if k = k' then v else sparseGet d m k' := by
  unfold sparseSet
  split
  · next h => subst h; exact sparseGet_erase v k k' m
  · rw [sparseGet_insert d k v k' _ (by rw [sparseGet_erase, if_pos rfl])
      (by intro e he; simpa using (List.mem_filter.mp he).2), sparseGet_erase]
    split <;> rfl

theorem keysAbove_filter (p : Nat × α → Bool) {k : Nat} {m : List (Nat × α)}
    (h : keysAbove k m = true) : keysAbove k (m.filter p) = true := by
  simp only [keysAbove, List.all_eq_true] at h ⊢
  exact fun e he => h e (List.mem_filter.mp he).1

theorem sparseWf_erase [DecidableEq α] (d : α) (n k : Nat) (m : List (Nat × α))
    (h : sparseWf d n m = true) : sparseWf d n (sparseErase k m) = true := by
  induction m with
  | nil => rfl
  | cons e m ih =>
    simp only [sparseWf, Bool.and_eq_true] at h
    have ih := ih h.2
    unfold sparseErase at ih ⊢
    rw [List.filter_cons]
    split
    · simp only [sparseWf, Bool.and_eq_true]
      exact ⟨⟨keysAbove_filter _ h.1.1, h.1.2⟩, ih⟩
    · exact ih

theorem keysAbove_trans {j k : Nat} {m : List (Nat × α)} (hjk : j < k)
    (h : keysAbove k m = true) : keysAbove j m = true := by
  simp only [keysAbove, List.all_eq_true, decide_eq_true_eq] at h ⊢
  exact fun e he => hjk.trans (h e he)

theorem keysAbove_insert {j k : Nat} {v : α} {m : List (Nat × α)} (hjk : j < k)
    (h : keysAbove j m = true) : keysAbove j (sparseInsert k v m) = true := by
  induction m with
  | nil => simpa [keysAbove, sparseInsert] using hjk
  | cons e m ih =>
    simp only [keysAbove, List.all_cons, Bool.and_eq_true] at h
    simp only [sparseInsert]
    split
    · simpa [keysAbove, hjk] using h
    · simpa [keysAbove] using ⟨by simpa using h.1, by simpa [keysAbove] using ih h.2⟩

theorem sparseWf_insert [DecidableEq α] (d : α) (n k : Nat) (v : α) (m : List (Nat × α))
    (hk : k < n) (hv : v ≠ d) (hm : ∀ e ∈ m, e.1 ≠ k) (h : sparseWf d n m = true) :
    sparseWf d n (sparseInsert k v m) = true := by
  induction m with
  | nil => simp [sparseInsert, sparseWf, keysAbove, hk, hv]
  | cons e m ih =>
    have h0 := h
    simp only [sparseWf, Bool.and_eq_true] at h
    simp only [sparseInsert]
    split
    · next hlt =>
      have hab : keysAbove k (e :: m) = true := by
        simpa [keysAbove, hlt] using keysAbove_trans hlt h.1.1
      simp [sparseWf, hab, hk, hv, h.1.1, h.2, by simpa using h.1.2]
    · next hge =>
      have hlt : e.1 < k := by have := hm e (by simp); omega
      simp only [sparseWf, Bool.and_eq_true]
      exact ⟨⟨keysAbove_insert hlt h.1.1, h.1.2⟩, ih (fun x hx => hm x (by simp [hx])) h.2⟩

/-- A write keeps the canonical form. -/
theorem sparseWf_set [DecidableEq α] (d : α) (n k : Nat) (v : α) (m : List (Nat × α))
    (hk : k < n) (h : sparseWf d n m = true) : sparseWf d n (sparseSet d k v m) = true := by
  unfold sparseSet
  split
  · exact sparseWf_erase d n k m h
  · next hv =>
    exact sparseWf_insert d n k v _ hk hv
      (by intro e he; simpa using (List.mem_filter.mp he).2) (sparseWf_erase d n k m h)

end Sys2Proof.Laws
end

