-- ==== Sys2Proof/Laws/State.lean ====
section
/-! SUPPORT. What each update of one piece of state does to each field of State, and to the registers
and the unnamed words read through their accessors. No later proof unfolds a record update. -/
namespace Sys2Proof.Laws

open Sys2Proof.Machine

variable (s : State)

/-! ### `setReg` -/

@[simp] theorem setReg_cfg (r : Reg) (v : Word) : (setReg s r v).cfg = s.cfg := rfl
@[simp] theorem setReg_regs (r : Reg) (v : Word) :
    (setReg s r v).regs = s.regs.set r.idx.val v r.idx.isLt := rfl
@[simp] theorem setReg_words (r : Reg) (v : Word) : (setReg s r v).words = s.words := rfl
@[simp] theorem setReg_txAcc (r : Reg) (v : Word) : (setReg s r v).txAcc = s.txAcc := rfl
@[simp] theorem setReg_txFirstCtl (r : Reg) (v : Word) :
    (setReg s r v).txFirstCtl = s.txFirstCtl := rfl
@[simp] theorem setReg_irq (r : Reg) (v : Word) : (setReg s r v).irq = s.irq := rfl
@[simp] theorem setReg_linkUp (r : Reg) (v : Word) : (setReg s r v).linkUp = s.linkUp := rfl
@[simp] theorem setReg_mem (r : Reg) (v : Word) : (setReg s r v).mem = s.mem := rfl
@[simp] theorem setReg_requests (r : Reg) (v : Word) : (setReg s r v).requests = s.requests := rfl
@[simp] theorem setReg_result (r : Reg) (v : Word) : (setReg s r v).result = s.result := rfl
@[simp] theorem setReg_trace (r : Reg) (v : Word) : (setReg s r v).trace = s.trace := rfl

/-! ### `setWord` -/

@[simp] theorem setWord_cfg (a : Nat) (v : Word) : (setWord s a v).cfg = s.cfg := rfl
@[simp] theorem setWord_regs (a : Nat) (v : Word) : (setWord s a v).regs = s.regs := rfl
@[simp] theorem setWord_words (a : Nat) (v : Word) :
    (setWord s a v).words = sparseSet 0#32 a v s.words := rfl
@[simp] theorem setWord_txAcc (a : Nat) (v : Word) : (setWord s a v).txAcc = s.txAcc := rfl
@[simp] theorem setWord_txFirstCtl (a : Nat) (v : Word) :
    (setWord s a v).txFirstCtl = s.txFirstCtl := rfl
@[simp] theorem setWord_irq (a : Nat) (v : Word) : (setWord s a v).irq = s.irq := rfl
@[simp] theorem setWord_linkUp (a : Nat) (v : Word) : (setWord s a v).linkUp = s.linkUp := rfl
@[simp] theorem setWord_mem (a : Nat) (v : Word) : (setWord s a v).mem = s.mem := rfl
@[simp] theorem setWord_requests (a : Nat) (v : Word) : (setWord s a v).requests = s.requests := rfl
@[simp] theorem setWord_result (a : Nat) (v : Word) : (setWord s a v).result = s.result := rfl
@[simp] theorem setWord_trace (a : Nat) (v : Word) : (setWord s a v).trace = s.trace := rfl

/-! ### `setTxAcc` -/

@[simp] theorem setTxAcc_cfg (acc : List Byte) : (setTxAcc s acc).cfg = s.cfg := rfl
@[simp] theorem setTxAcc_regs (acc : List Byte) : (setTxAcc s acc).regs = s.regs := rfl
@[simp] theorem setTxAcc_words (acc : List Byte) : (setTxAcc s acc).words = s.words := rfl
@[simp] theorem setTxAcc_txAcc (acc : List Byte) : (setTxAcc s acc).txAcc = acc := rfl
@[simp] theorem setTxAcc_txFirstCtl (acc : List Byte) :
    (setTxAcc s acc).txFirstCtl = s.txFirstCtl := rfl
@[simp] theorem setTxAcc_irq (acc : List Byte) : (setTxAcc s acc).irq = s.irq := rfl
@[simp] theorem setTxAcc_linkUp (acc : List Byte) : (setTxAcc s acc).linkUp = s.linkUp := rfl
@[simp] theorem setTxAcc_mem (acc : List Byte) : (setTxAcc s acc).mem = s.mem := rfl
@[simp] theorem setTxAcc_requests (acc : List Byte) : (setTxAcc s acc).requests = s.requests := rfl
@[simp] theorem setTxAcc_result (acc : List Byte) : (setTxAcc s acc).result = s.result := rfl
@[simp] theorem setTxAcc_trace (acc : List Byte) : (setTxAcc s acc).trace = s.trace := rfl

/-! ### `setTxFirst` -/

@[simp] theorem setTxFirst_cfg (ctl : DWord) : (setTxFirst s ctl).cfg = s.cfg := rfl
@[simp] theorem setTxFirst_regs (ctl : DWord) : (setTxFirst s ctl).regs = s.regs := rfl
@[simp] theorem setTxFirst_words (ctl : DWord) : (setTxFirst s ctl).words = s.words := rfl
@[simp] theorem setTxFirst_txAcc (ctl : DWord) : (setTxFirst s ctl).txAcc = s.txAcc := rfl
@[simp] theorem setTxFirst_txFirstCtl (ctl : DWord) : (setTxFirst s ctl).txFirstCtl = ctl := rfl
@[simp] theorem setTxFirst_irq (ctl : DWord) : (setTxFirst s ctl).irq = s.irq := rfl
@[simp] theorem setTxFirst_linkUp (ctl : DWord) : (setTxFirst s ctl).linkUp = s.linkUp := rfl
@[simp] theorem setTxFirst_mem (ctl : DWord) : (setTxFirst s ctl).mem = s.mem := rfl
@[simp] theorem setTxFirst_requests (ctl : DWord) : (setTxFirst s ctl).requests = s.requests := rfl
@[simp] theorem setTxFirst_result (ctl : DWord) : (setTxFirst s ctl).result = s.result := rfl
@[simp] theorem setTxFirst_trace (ctl : DWord) : (setTxFirst s ctl).trace = s.trace := rfl

/-! ### `setIrq` -/

@[simp] theorem setIrq_cfg (b : Bool) : (setIrq s b).cfg = s.cfg := rfl
@[simp] theorem setIrq_regs (b : Bool) : (setIrq s b).regs = s.regs := rfl
@[simp] theorem setIrq_words (b : Bool) : (setIrq s b).words = s.words := rfl
@[simp] theorem setIrq_txAcc (b : Bool) : (setIrq s b).txAcc = s.txAcc := rfl
@[simp] theorem setIrq_txFirstCtl (b : Bool) : (setIrq s b).txFirstCtl = s.txFirstCtl := rfl
@[simp] theorem setIrq_irq (b : Bool) : (setIrq s b).irq = b := rfl
@[simp] theorem setIrq_linkUp (b : Bool) : (setIrq s b).linkUp = s.linkUp := rfl
@[simp] theorem setIrq_mem (b : Bool) : (setIrq s b).mem = s.mem := rfl
@[simp] theorem setIrq_requests (b : Bool) : (setIrq s b).requests = s.requests := rfl
@[simp] theorem setIrq_result (b : Bool) : (setIrq s b).result = s.result := rfl
@[simp] theorem setIrq_trace (b : Bool) : (setIrq s b).trace = s.trace := rfl

/-! ### `setLinkUp` -/

@[simp] theorem setLinkUp_cfg (b : Bool) : (setLinkUp s b).cfg = s.cfg := rfl
@[simp] theorem setLinkUp_regs (b : Bool) : (setLinkUp s b).regs = s.regs := rfl
@[simp] theorem setLinkUp_words (b : Bool) : (setLinkUp s b).words = s.words := rfl
@[simp] theorem setLinkUp_txAcc (b : Bool) : (setLinkUp s b).txAcc = s.txAcc := rfl
@[simp] theorem setLinkUp_txFirstCtl (b : Bool) : (setLinkUp s b).txFirstCtl = s.txFirstCtl := rfl
@[simp] theorem setLinkUp_irq (b : Bool) : (setLinkUp s b).irq = s.irq := rfl
@[simp] theorem setLinkUp_linkUp (b : Bool) : (setLinkUp s b).linkUp = b := rfl
@[simp] theorem setLinkUp_mem (b : Bool) : (setLinkUp s b).mem = s.mem := rfl
@[simp] theorem setLinkUp_requests (b : Bool) : (setLinkUp s b).requests = s.requests := rfl
@[simp] theorem setLinkUp_result (b : Bool) : (setLinkUp s b).result = s.result := rfl
@[simp] theorem setLinkUp_trace (b : Bool) : (setLinkUp s b).trace = s.trace := rfl

/-! ### `setMem` -/

@[simp] theorem setMem_cfg (m : Memory) : (setMem s m).cfg = s.cfg := rfl
@[simp] theorem setMem_regs (m : Memory) : (setMem s m).regs = s.regs := rfl
@[simp] theorem setMem_words (m : Memory) : (setMem s m).words = s.words := rfl
@[simp] theorem setMem_txAcc (m : Memory) : (setMem s m).txAcc = s.txAcc := rfl
@[simp] theorem setMem_txFirstCtl (m : Memory) : (setMem s m).txFirstCtl = s.txFirstCtl := rfl
@[simp] theorem setMem_irq (m : Memory) : (setMem s m).irq = s.irq := rfl
@[simp] theorem setMem_linkUp (m : Memory) : (setMem s m).linkUp = s.linkUp := rfl
@[simp] theorem setMem_mem (m : Memory) : (setMem s m).mem = m := rfl
@[simp] theorem setMem_requests (m : Memory) : (setMem s m).requests = s.requests := rfl
@[simp] theorem setMem_result (m : Memory) : (setMem s m).result = s.result := rfl
@[simp] theorem setMem_trace (m : Memory) : (setMem s m).trace = s.trace := rfl

/-! ### `setRequests` -/

@[simp] theorem setRequests_cfg (q : List Request) : (setRequests s q).cfg = s.cfg := rfl
@[simp] theorem setRequests_regs (q : List Request) : (setRequests s q).regs = s.regs := rfl
@[simp] theorem setRequests_words (q : List Request) : (setRequests s q).words = s.words := rfl
@[simp] theorem setRequests_txAcc (q : List Request) : (setRequests s q).txAcc = s.txAcc := rfl
@[simp] theorem setRequests_txFirstCtl (q : List Request) :
    (setRequests s q).txFirstCtl = s.txFirstCtl := rfl
@[simp] theorem setRequests_irq (q : List Request) : (setRequests s q).irq = s.irq := rfl
@[simp] theorem setRequests_linkUp (q : List Request) : (setRequests s q).linkUp = s.linkUp := rfl
@[simp] theorem setRequests_mem (q : List Request) : (setRequests s q).mem = s.mem := rfl
@[simp] theorem setRequests_requests (q : List Request) : (setRequests s q).requests = q := rfl
@[simp] theorem setRequests_result (q : List Request) : (setRequests s q).result = s.result := rfl
@[simp] theorem setRequests_trace (q : List Request) : (setRequests s q).trace = s.trace := rfl

/-! ### `setResult` -/

@[simp] theorem setResult_cfg (r : Result) : (setResult s r).cfg = s.cfg := rfl
@[simp] theorem setResult_regs (r : Result) : (setResult s r).regs = s.regs := rfl
@[simp] theorem setResult_words (r : Result) : (setResult s r).words = s.words := rfl
@[simp] theorem setResult_txAcc (r : Result) : (setResult s r).txAcc = s.txAcc := rfl
@[simp] theorem setResult_txFirstCtl (r : Result) : (setResult s r).txFirstCtl = s.txFirstCtl := rfl
@[simp] theorem setResult_irq (r : Result) : (setResult s r).irq = s.irq := rfl
@[simp] theorem setResult_linkUp (r : Result) : (setResult s r).linkUp = s.linkUp := rfl
@[simp] theorem setResult_mem (r : Result) : (setResult s r).mem = s.mem := rfl
@[simp] theorem setResult_requests (r : Result) : (setResult s r).requests = s.requests := rfl
@[simp] theorem setResult_result (r : Result) : (setResult s r).result = r := rfl
@[simp] theorem setResult_trace (r : Result) : (setResult s r).trace = s.trace := rfl

/-! ### `emit` -/

@[simp] theorem emit_cfg (e : Event) : (emit s e).cfg = s.cfg := rfl
@[simp] theorem emit_regs (e : Event) : (emit s e).regs = s.regs := rfl
@[simp] theorem emit_words (e : Event) : (emit s e).words = s.words := rfl
@[simp] theorem emit_txAcc (e : Event) : (emit s e).txAcc = s.txAcc := rfl
@[simp] theorem emit_txFirstCtl (e : Event) : (emit s e).txFirstCtl = s.txFirstCtl := rfl
@[simp] theorem emit_irq (e : Event) : (emit s e).irq = s.irq := rfl
@[simp] theorem emit_linkUp (e : Event) : (emit s e).linkUp = s.linkUp := rfl
@[simp] theorem emit_mem (e : Event) : (emit s e).mem = s.mem := rfl
@[simp] theorem emit_requests (e : Event) : (emit s e).requests = s.requests := rfl
@[simp] theorem emit_result (e : Event) : (emit s e).result = s.result := rfl
@[simp] theorem emit_trace (e : Event) : (emit s e).trace = s.trace ++ [e] := rfl

/-! ### The accessors -/

theorem idx_injective {r r' : Reg} (h : r.idx = r'.idx) : r = r' := by
  have key : ∀ q : Reg, Reg.all[q.idx.val]? = some q := by intro q; cases q <;> rfl
  have := key r
  rw [h, key r'] at this
  exact (Option.some.inj this).symm

/-- A read of any named register after a write of one. -/
@[simp] theorem getReg_setReg (r r' : Reg) (v : Word) :
    getReg (setReg s r v) r' = if r = r' then v else getReg s r' := by
  simp only [getReg, setReg, Vector.get_eq_getElem, Vector.getElem_set]
  by_cases h : r = r'
  · simp [h]
  · have hne : (r.idx : Nat) ≠ r'.idx := fun hh => h (idx_injective (Fin.ext hh))
    rw [if_neg hne, if_neg h]

/-- A read of any unnamed word after a write of one. -/
@[simp] theorem getWord_setWord (a b : Nat) (v : Word) :
    getWord (setWord s a v) b = if a = b then v else getWord s b := sparseGet_set _ _ _ _ _

@[simp] theorem getReg_setWord (a : Nat) (v : Word) (r : Reg) :
    getReg (setWord s a v) r = getReg s r := rfl
@[simp] theorem getReg_setTxAcc (acc : List Byte) (r : Reg) :
    getReg (setTxAcc s acc) r = getReg s r := rfl
@[simp] theorem getReg_setTxFirst (ctl : DWord) (r : Reg) :
    getReg (setTxFirst s ctl) r = getReg s r := rfl
@[simp] theorem getReg_setIrq (b : Bool) (r : Reg) : getReg (setIrq s b) r = getReg s r := rfl
@[simp] theorem getReg_setLinkUp (b : Bool) (r : Reg) : getReg (setLinkUp s b) r = getReg s r := rfl
@[simp] theorem getReg_setMem (m : Memory) (r : Reg) : getReg (setMem s m) r = getReg s r := rfl
@[simp] theorem getReg_setRequests (q : List Request) (r : Reg) :
    getReg (setRequests s q) r = getReg s r := rfl
@[simp] theorem getReg_setResult (x : Result) (r : Reg) :
    getReg (setResult s x) r = getReg s r := rfl
@[simp] theorem getReg_emit (e : Event) (r : Reg) : getReg (emit s e) r = getReg s r := rfl

@[simp] theorem getWord_setReg (r : Reg) (v : Word) (k : Nat) :
    getWord (setReg s r v) k = getWord s k := rfl
@[simp] theorem getWord_setTxAcc (acc : List Byte) (k : Nat) :
    getWord (setTxAcc s acc) k = getWord s k := rfl
@[simp] theorem getWord_setTxFirst (ctl : DWord) (k : Nat) :
    getWord (setTxFirst s ctl) k = getWord s k := rfl
@[simp] theorem getWord_setIrq (b : Bool) (k : Nat) : getWord (setIrq s b) k = getWord s k := rfl
@[simp] theorem getWord_setLinkUp (b : Bool) (k : Nat) :
    getWord (setLinkUp s b) k = getWord s k := rfl
@[simp] theorem getWord_setMem (m : Memory) (k : Nat) : getWord (setMem s m) k = getWord s k := rfl
@[simp] theorem getWord_setRequests (q : List Request) (k : Nat) :
    getWord (setRequests s q) k = getWord s k := rfl
@[simp] theorem getWord_setResult (r : Result) (k : Nat) :
    getWord (setResult s r) k = getWord s k := rfl
@[simp] theorem getWord_emit (e : Event) (k : Nat) : getWord (emit s e) k = getWord s k := rfl

end Sys2Proof.Laws
end

