-- ==== Sys2Proof/Laws/Ops.lean ====
section
/-! SUPPORT. What each shared operation of Machine/Ops.lean can do: the fields it leaves alone, the
registers it writes, and the value it gives to the interrupt line. -/
namespace Sys2Proof.Laws

open Sys2Proof.Machine

variable (s : State)

/-! ### Outputs, the line, DMA -/

@[simp] theorem raise_regs (x : LogRecord) : (raise s x).regs = s.regs := rfl
@[simp] theorem getReg_raise (x : LogRecord) (r : Reg) : getReg (raise s x) r = getReg s r := rfl
@[simp] theorem getWord_raise (x : LogRecord) (k : Nat) : getWord (raise s x) k = getWord s k := rfl
@[simp] theorem raise_trace (x : LogRecord) : (raise s x).trace = s.trace ++ [.log x] := rfl

@[simp] theorem raise_cfg (x : LogRecord) : (raise s x).cfg = s.cfg := rfl
@[simp] theorem raise_words (x : LogRecord) : (raise s x).words = s.words := rfl
@[simp] theorem raise_txAcc (x : LogRecord) : (raise s x).txAcc = s.txAcc := rfl
@[simp] theorem raise_txFirstCtl (x : LogRecord) : (raise s x).txFirstCtl = s.txFirstCtl := rfl
@[simp] theorem raise_irq (x : LogRecord) : (raise s x).irq = s.irq := rfl
@[simp] theorem raise_linkUp (x : LogRecord) : (raise s x).linkUp = s.linkUp := rfl
@[simp] theorem raise_mem (x : LogRecord) : (raise s x).mem = s.mem := rfl
@[simp] theorem raise_requests (x : LogRecord) : (raise s x).requests = s.requests := rfl
@[simp] theorem raise_result (x : LogRecord) : (raise s x).result = s.result := rfl

/-- The trace shows a change of level and nothing else (R14). -/
theorem driveIrq_trace (b : Bool) :
    (driveIrq s b).trace = if s.irq = b then s.trace else s.trace ++ [.irq b] := by
  unfold driveIrq; split <;> simp

@[simp] theorem driveIrq_irq (b : Bool) : (driveIrq s b).irq = b := by
  unfold driveIrq; split <;> simp_all

@[simp] theorem driveIrq_regs (b : Bool) : (driveIrq s b).regs = s.regs := by
  unfold driveIrq; split <;> simp
@[simp] theorem getReg_driveIrq (b : Bool) (r : Reg) : getReg (driveIrq s b) r = getReg s r := by
  unfold driveIrq; split <;> simp
@[simp] theorem getWord_driveIrq (b : Bool) (k : Nat) :
    getWord (driveIrq s b) k = getWord s k := by
  unfold driveIrq; split <;> simp

@[simp] theorem driveIrq_cfg (b : Bool) :
    (driveIrq s b).cfg = s.cfg := by unfold driveIrq; split <;> simp
@[simp] theorem driveIrq_words (b : Bool) :
    (driveIrq s b).words = s.words := by unfold driveIrq; split <;> simp
@[simp] theorem driveIrq_txAcc (b : Bool) :
    (driveIrq s b).txAcc = s.txAcc := by unfold driveIrq; split <;> simp
@[simp] theorem driveIrq_txFirstCtl (b : Bool) :
    (driveIrq s b).txFirstCtl = s.txFirstCtl := by unfold driveIrq; split <;> simp
@[simp] theorem driveIrq_linkUp (b : Bool) :
    (driveIrq s b).linkUp = s.linkUp := by unfold driveIrq; split <;> simp
@[simp] theorem driveIrq_mem (b : Bool) :
    (driveIrq s b).mem = s.mem := by unfold driveIrq; split <;> simp
@[simp] theorem driveIrq_requests (b : Bool) :
    (driveIrq s b).requests = s.requests := by unfold driveIrq; split <;> simp
@[simp] theorem driveIrq_result (b : Bool) :
    (driveIrq s b).result = s.result := by unfold driveIrq; split <;> simp

@[simp] theorem dmaRead_bytes (a : Addr) (n : Nat) : (dmaRead s a n).1 = readBytes s.mem a n := rfl

theorem dmaRead_trace (a : Addr) (n : Nat) :
    (dmaRead s a n).2.trace = if n = 0 then s.trace else s.trace ++ [.dmaRead a n] := by
  simp only [dmaRead]; split <;> simp

@[simp] theorem dmaRead_regs (a : Addr) (n : Nat) : (dmaRead s a n).2.regs = s.regs := by
  simp only [dmaRead]; split <;> simp
@[simp] theorem getReg_dmaRead (a : Addr) (n : Nat) (r : Reg) :
    getReg (dmaRead s a n).2 r = getReg s r := by
  simp only [dmaRead]; split <;> simp
@[simp] theorem getWord_dmaRead (a : Addr) (n : Nat) (k : Nat) :
    getWord (dmaRead s a n).2 k = getWord s k := by
  simp only [dmaRead]; split <;> simp

@[simp] theorem dmaRead_cfg (a : Addr) (n : Nat) :
    (dmaRead s a n).2.cfg = s.cfg := by simp only [dmaRead]; split <;> simp
@[simp] theorem dmaRead_words (a : Addr) (n : Nat) :
    (dmaRead s a n).2.words = s.words := by simp only [dmaRead]; split <;> simp
@[simp] theorem dmaRead_txAcc (a : Addr) (n : Nat) :
    (dmaRead s a n).2.txAcc = s.txAcc := by simp only [dmaRead]; split <;> simp
@[simp] theorem dmaRead_txFirstCtl (a : Addr) (n : Nat) :
    (dmaRead s a n).2.txFirstCtl = s.txFirstCtl := by simp only [dmaRead]; split <;> simp
@[simp] theorem dmaRead_irq (a : Addr) (n : Nat) :
    (dmaRead s a n).2.irq = s.irq := by simp only [dmaRead]; split <;> simp
@[simp] theorem dmaRead_linkUp (a : Addr) (n : Nat) :
    (dmaRead s a n).2.linkUp = s.linkUp := by simp only [dmaRead]; split <;> simp
@[simp] theorem dmaRead_mem (a : Addr) (n : Nat) :
    (dmaRead s a n).2.mem = s.mem := by simp only [dmaRead]; split <;> simp
@[simp] theorem dmaRead_requests (a : Addr) (n : Nat) :
    (dmaRead s a n).2.requests = s.requests := by simp only [dmaRead]; split <;> simp
@[simp] theorem dmaRead_result (a : Addr) (n : Nat) :
    (dmaRead s a n).2.result = s.result := by simp only [dmaRead]; split <;> simp

/-- A DMA write of any length leaves in memory what storing its bytes gives. -/
@[simp] theorem dmaWrite_mem (a : Addr) (v : List Byte) :
    (dmaWrite s a v).mem = writeBytes s.mem a v := by
  unfold dmaWrite; split
  · next h => subst h; rfl
  · simp

theorem dmaWrite_trace (a : Addr) (v : List Byte) :
    (dmaWrite s a v).trace = if v = [] then s.trace else s.trace ++ [.dmaWrite a v] := by
  unfold dmaWrite; split <;> simp

@[simp] theorem dmaWrite_regs (a : Addr) (v : List Byte) : (dmaWrite s a v).regs = s.regs := by
  unfold dmaWrite; split <;> simp
@[simp] theorem getReg_dmaWrite (a : Addr) (v : List Byte) (r : Reg) :
    getReg (dmaWrite s a v) r = getReg s r := by
  unfold dmaWrite; split <;> simp
@[simp] theorem getWord_dmaWrite (a : Addr) (v : List Byte) (k : Nat) :
    getWord (dmaWrite s a v) k = getWord s k := by
  unfold dmaWrite; split <;> simp

@[simp] theorem dmaWrite_cfg (a : Addr) (v : List Byte) :
    (dmaWrite s a v).cfg = s.cfg := by unfold dmaWrite; split <;> simp
@[simp] theorem dmaWrite_words (a : Addr) (v : List Byte) :
    (dmaWrite s a v).words = s.words := by unfold dmaWrite; split <;> simp
@[simp] theorem dmaWrite_txAcc (a : Addr) (v : List Byte) :
    (dmaWrite s a v).txAcc = s.txAcc := by unfold dmaWrite; split <;> simp
@[simp] theorem dmaWrite_txFirstCtl (a : Addr) (v : List Byte) :
    (dmaWrite s a v).txFirstCtl = s.txFirstCtl := by unfold dmaWrite; split <;> simp
@[simp] theorem dmaWrite_irq (a : Addr) (v : List Byte) :
    (dmaWrite s a v).irq = s.irq := by unfold dmaWrite; split <;> simp
@[simp] theorem dmaWrite_linkUp (a : Addr) (v : List Byte) :
    (dmaWrite s a v).linkUp = s.linkUp := by unfold dmaWrite; split <;> simp
@[simp] theorem dmaWrite_requests (a : Addr) (v : List Byte) :
    (dmaWrite s a v).requests = s.requests := by unfold dmaWrite; split <;> simp
@[simp] theorem dmaWrite_result (a : Addr) (v : List Byte) :
    (dmaWrite s a v).result = s.result := by unfold dmaWrite; split <;> simp

/-! ### The interrupt aggregator -/

@[simp] theorem evaluate_irq :
    (evaluate s).irq = irqLevel s.cfg (getReg s .gregStat) (getReg s .gregImask) := by
  simp [evaluate]

@[simp] theorem evaluate_regs : (evaluate s).regs = s.regs := by simp [evaluate]
@[simp] theorem getReg_evaluate (r : Reg) : getReg (evaluate s) r = getReg s r := by
  simp [evaluate]
@[simp] theorem getWord_evaluate (k : Nat) : getWord (evaluate s) k = getWord s k := by
  simp [evaluate]

@[simp] theorem evaluate_cfg : (evaluate s).cfg = s.cfg := by simp [evaluate]
@[simp] theorem evaluate_words : (evaluate s).words = s.words := by simp [evaluate]
@[simp] theorem evaluate_txAcc : (evaluate s).txAcc = s.txAcc := by simp [evaluate]
@[simp] theorem evaluate_txFirstCtl : (evaluate s).txFirstCtl = s.txFirstCtl := by simp [evaluate]
@[simp] theorem evaluate_linkUp : (evaluate s).linkUp = s.linkUp := by simp [evaluate]
@[simp] theorem evaluate_mem : (evaluate s).mem = s.mem := by simp [evaluate]
@[simp] theorem evaluate_requests : (evaluate s).requests = s.requests := by simp [evaluate]
@[simp] theorem evaluate_result : (evaluate s).result = s.result := by simp [evaluate]

/-- Evaluating a line that already has its level changes nothing (R196). -/
theorem evaluate_of_settled
    (h : s.irq = irqLevel s.cfg (getReg s .gregStat) (getReg s .gregImask)) : evaluate s = s := by
  simp [evaluate, driveIrq, h]

/-- The line after a status update has the level of the new status. -/
@[simp] theorem setStatus_irq (bits : Word) (on : Bool) :
    (setStatus s bits on).irq =
      irqLevel s.cfg (withBits (getReg s .gregStat) bits on) (getReg s .gregImask) := by
  simp [setStatus]

/-- A status update writes GREG_STAT and no other register. -/
@[simp] theorem getReg_setStatus (bits : Word) (on : Bool) (r : Reg) :
    getReg (setStatus s bits on) r =
      if r = .gregStat then withBits (getReg s .gregStat) bits on else getReg s r := by
  simp only [setStatus, getReg_evaluate, getReg_setReg, eq_comm]

@[simp] theorem getWord_setStatus (bits : Word) (on : Bool) (k : Nat) :
    getWord (setStatus s bits on) k = getWord s k := by simp [setStatus]

@[simp] theorem setStatus_cfg (bits : Word) (on : Bool) :
    (setStatus s bits on).cfg = s.cfg := by simp [setStatus]
@[simp] theorem setStatus_words (bits : Word) (on : Bool) :
    (setStatus s bits on).words = s.words := by simp [setStatus]
@[simp] theorem setStatus_txAcc (bits : Word) (on : Bool) :
    (setStatus s bits on).txAcc = s.txAcc := by simp [setStatus]
@[simp] theorem setStatus_txFirstCtl (bits : Word) (on : Bool) :
    (setStatus s bits on).txFirstCtl = s.txFirstCtl := by simp [setStatus]
@[simp] theorem setStatus_linkUp (bits : Word) (on : Bool) :
    (setStatus s bits on).linkUp = s.linkUp := by simp [setStatus]
@[simp] theorem setStatus_mem (bits : Word) (on : Bool) :
    (setStatus s bits on).mem = s.mem := by simp [setStatus]
@[simp] theorem setStatus_requests (bits : Word) (on : Bool) :
    (setStatus s bits on).requests = s.requests := by simp [setStatus]
@[simp] theorem setStatus_result (bits : Word) (on : Bool) :
    (setStatus s bits on).result = s.result := by simp [setStatus]

@[simp] theorem acknowledge_irq (v : Word) :
    (acknowledge s v).irq = irqLevel s.cfg (getReg s .gregStat &&& ~~~ (v &&& s.cfg.statLatch))
      (getReg s .gregImask) := by
  simp [acknowledge]

/-- An acknowledgement writes GREG_STAT and no other register. -/
@[simp] theorem getReg_acknowledge (v : Word) (r : Reg) :
    getReg (acknowledge s v) r = if r = .gregStat then
      getReg s .gregStat &&& ~~~ (v &&& s.cfg.statLatch) else getReg s r := by
  simp only [acknowledge, getReg_evaluate, getReg_setReg, eq_comm]

@[simp] theorem getWord_acknowledge (v : Word) (k : Nat) : getWord (acknowledge s v) k = getWord s k := by
  simp [acknowledge]

@[simp] theorem acknowledge_cfg (v : Word) : (acknowledge s v).cfg = s.cfg := by simp [acknowledge]
@[simp] theorem acknowledge_words (v : Word) :
    (acknowledge s v).words = s.words := by simp [acknowledge]
@[simp] theorem acknowledge_txAcc (v : Word) :
    (acknowledge s v).txAcc = s.txAcc := by simp [acknowledge]
@[simp] theorem acknowledge_txFirstCtl (v : Word) :
    (acknowledge s v).txFirstCtl = s.txFirstCtl := by simp [acknowledge]
@[simp] theorem acknowledge_linkUp (v : Word) :
    (acknowledge s v).linkUp = s.linkUp := by simp [acknowledge]
@[simp] theorem acknowledge_mem (v : Word) : (acknowledge s v).mem = s.mem := by simp [acknowledge]
@[simp] theorem acknowledge_requests (v : Word) :
    (acknowledge s v).requests = s.requests := by simp [acknowledge]
@[simp] theorem acknowledge_result (v : Word) :
    (acknowledge s v).result = s.result := by simp [acknowledge]

@[simp] theorem clearLatched_irq :
    (clearLatched s).irq = irqLevel s.cfg (getReg s .gregStat &&& ~~~ s.cfg.statLatch)
      (getReg s .gregImask) := by
  simp [clearLatched]

/-- The effect of a status read writes GREG_STAT and no other register. -/
@[simp] theorem getReg_clearLatched (r : Reg) :
    getReg (clearLatched s) r = if r = .gregStat then
      getReg s .gregStat &&& ~~~ s.cfg.statLatch else getReg s r := by
  simp only [clearLatched, getReg_evaluate, getReg_setReg, eq_comm]

@[simp] theorem getWord_clearLatched (k : Nat) : getWord (clearLatched s) k = getWord s k := by
  simp [clearLatched]

@[simp] theorem clearLatched_cfg : (clearLatched s).cfg = s.cfg := by simp [clearLatched]
@[simp] theorem clearLatched_words : (clearLatched s).words = s.words := by simp [clearLatched]
@[simp] theorem clearLatched_txAcc : (clearLatched s).txAcc = s.txAcc := by simp [clearLatched]
@[simp] theorem clearLatched_txFirstCtl :
    (clearLatched s).txFirstCtl = s.txFirstCtl := by simp [clearLatched]
@[simp] theorem clearLatched_linkUp : (clearLatched s).linkUp = s.linkUp := by simp [clearLatched]
@[simp] theorem clearLatched_mem : (clearLatched s).mem = s.mem := by simp [clearLatched]
@[simp] theorem clearLatched_requests :
    (clearLatched s).requests = s.requests := by simp [clearLatched]
@[simp] theorem clearLatched_result : (clearLatched s).result = s.result := by simp [clearLatched]

/-- Reading a sub-status register writes it and GREG_STAT, and no other register. -/
theorem getReg_clearSubStatus (q : Reg) (keep agg : Word) (r : Reg) (hq : q ≠ .gregStat) :
    getReg (clearSubStatus s q keep agg) r =
      if r = .gregStat then getReg s .gregStat &&& ~~~ agg
      else if r = q then getReg s q &&& keep else getReg s r := by
  simp only [clearSubStatus, getReg_setStatus, getReg_setReg, withBits, if_neg hq, eq_comm]
  simp

@[simp] theorem clearSubStatus_irq (q : Reg) (keep agg : Word) (hq : q ≠ .gregStat)
    (hi : q ≠ .gregImask) :
    (clearSubStatus s q keep agg).irq =
      irqLevel s.cfg (getReg s .gregStat &&& ~~~ agg) (getReg s .gregImask) := by
  simp [clearSubStatus, withBits, hq, hi]

@[simp] theorem getWord_clearSubStatus (q : Reg) (keep agg : Word) (k : Nat) :
    getWord (clearSubStatus s q keep agg) k = getWord s k := by simp [clearSubStatus]

@[simp] theorem clearSubStatus_cfg (q : Reg) (keep agg : Word) :
    (clearSubStatus s q keep agg).cfg = s.cfg := by simp [clearSubStatus]
@[simp] theorem clearSubStatus_words (q : Reg) (keep agg : Word) :
    (clearSubStatus s q keep agg).words = s.words := by simp [clearSubStatus]
@[simp] theorem clearSubStatus_txAcc (q : Reg) (keep agg : Word) :
    (clearSubStatus s q keep agg).txAcc = s.txAcc := by simp [clearSubStatus]
@[simp] theorem clearSubStatus_txFirstCtl (q : Reg) (keep agg : Word) :
    (clearSubStatus s q keep agg).txFirstCtl = s.txFirstCtl := by simp [clearSubStatus]
@[simp] theorem clearSubStatus_linkUp (q : Reg) (keep agg : Word) :
    (clearSubStatus s q keep agg).linkUp = s.linkUp := by simp [clearSubStatus]
@[simp] theorem clearSubStatus_mem (q : Reg) (keep agg : Word) :
    (clearSubStatus s q keep agg).mem = s.mem := by simp [clearSubStatus]
@[simp] theorem clearSubStatus_requests (q : Reg) (keep agg : Word) :
    (clearSubStatus s q keep agg).requests = s.requests := by simp [clearSubStatus]
@[simp] theorem clearSubStatus_result (q : Reg) (keep agg : Word) :
    (clearSubStatus s q keep agg).result = s.result := by simp [clearSubStatus]

/-- The status word `Cascade()` leaves: each aggregate bit from its own sub-status register (R192). -/
theorem getReg_cascade_stat :
    getReg (cascade s) .gregStat =
      withBits (withBits (withBits (getReg s .gregStat) s.cfg.statTxMac
        (subPending (getReg s .macTxstat) (getReg s .macTxmask))) s.cfg.statRxMac
        (subPending (getReg s .macRxstat) (getReg s .macRxmask))) s.cfg.statMac
        (subPending (getReg s .macCstat &&& ~~~ s.cfg.cstatExcl) (getReg s .macMcmask)) := by
  simp [cascade]

/-- `Cascade()` writes no register but GREG_STAT. -/
@[simp] theorem getReg_cascade (r : Reg) (h : r ≠ .gregStat) :
    getReg (cascade s) r = getReg s r := by
  simp [cascade, h]

@[simp] theorem cascade_irq :
    (cascade s).irq =
      irqLevel s.cfg (getReg (cascade s) .gregStat) (getReg s .gregImask) := by
  simp [cascade]

@[simp] theorem getWord_cascade (k : Nat) : getWord (cascade s) k = getWord s k := by
  simp [cascade]

@[simp] theorem cascade_cfg : (cascade s).cfg = s.cfg := by simp [cascade]
@[simp] theorem cascade_words : (cascade s).words = s.words := by simp [cascade]
@[simp] theorem cascade_txAcc : (cascade s).txAcc = s.txAcc := by simp [cascade]
@[simp] theorem cascade_txFirstCtl : (cascade s).txFirstCtl = s.txFirstCtl := by simp [cascade]
@[simp] theorem cascade_linkUp : (cascade s).linkUp = s.linkUp := by simp [cascade]
@[simp] theorem cascade_mem : (cascade s).mem = s.mem := by simp [cascade]
@[simp] theorem cascade_requests : (cascade s).requests = s.requests := by simp [cascade]
@[simp] theorem cascade_result : (cascade s).result = s.result := by simp [cascade]

end Sys2Proof.Laws
end

