-- ==== Sys2Proof/Laws/BusAccess.lean ====
section
/-! SUPPORT. What the two parameters of a bus access can do: a clearing read (`CLEAR_ON_READ`) and the
read-only filter of a write (`RO_SET`). -/
namespace Sys2Proof.Laws

open Sys2Proof.Machine

variable {s : State}

/-- A read of a register outside `CLEAR_ON_READ` changes nothing. -/
@[simp] theorem afterRead_of_not_mem {q : Reg} (h : q ∉ s.cfg.clearOnRead) : afterRead s q = s := if_neg h

/-- A read of a register of `CLEAR_ON_READ` is a clearing read. -/
@[simp] theorem afterRead_of_mem {q : Reg} (h : q ∈ s.cfg.clearOnRead) :
    afterRead s q = clearSubStatus s q (keptOnRead s.cfg q) (aggregateOf s.cfg q) := if_pos h

/-- What holds after a clearing read and of the state itself holds after every read. -/
theorem afterRead_cases {P : State → Prop} (q : Reg) (stays : P s)
    (clears : q ∈ s.cfg.clearOnRead →
      P (clearSubStatus s q (keptOnRead s.cfg q) (aggregateOf s.cfg q))) : P (afterRead s q) := by
  unfold afterRead; split
  · exact clears ‹_›
  · exact stays

/-- A read writes at most its own register and GREG_STAT. -/
theorem getReg_afterRead (q r : Reg) (hq : q ≠ .gregStat) :
    getReg (afterRead s q) r =
      if q ∈ s.cfg.clearOnRead then
        if r = .gregStat then getReg s .gregStat &&& ~~~ aggregateOf s.cfg q
        else if r = q then getReg s q &&& keptOnRead s.cfg q else getReg s r
      else getReg s r := by
  unfold afterRead; split
  · exact getReg_clearSubStatus s q _ _ r hq
  · rfl

@[simp] theorem getWord_afterRead (q : Reg) (k : Nat) : getWord (afterRead s q) k = getWord s k :=
  afterRead_cases (P := fun t => getWord t k = getWord s k) q rfl fun _ => by simp
@[simp] theorem afterRead_cfg (q : Reg) : (afterRead s q).cfg = s.cfg :=
  afterRead_cases (P := fun t => t.cfg = s.cfg) q rfl fun _ => by simp
@[simp] theorem afterRead_words (q : Reg) : (afterRead s q).words = s.words :=
  afterRead_cases (P := fun t => t.words = s.words) q rfl fun _ => by simp
@[simp] theorem afterRead_txAcc (q : Reg) : (afterRead s q).txAcc = s.txAcc :=
  afterRead_cases (P := fun t => t.txAcc = s.txAcc) q rfl fun _ => by simp
@[simp] theorem afterRead_txFirstCtl (q : Reg) : (afterRead s q).txFirstCtl = s.txFirstCtl :=
  afterRead_cases (P := fun t => t.txFirstCtl = s.txFirstCtl) q rfl fun _ => by simp
@[simp] theorem afterRead_linkUp (q : Reg) : (afterRead s q).linkUp = s.linkUp :=
  afterRead_cases (P := fun t => t.linkUp = s.linkUp) q rfl fun _ => by simp
@[simp] theorem afterRead_mem (q : Reg) : (afterRead s q).mem = s.mem :=
  afterRead_cases (P := fun t => t.mem = s.mem) q rfl fun _ => by simp
@[simp] theorem afterRead_requests (q : Reg) : (afterRead s q).requests = s.requests :=
  afterRead_cases (P := fun t => t.requests = s.requests) q rfl fun _ => by simp
@[simp] theorem afterRead_result (q : Reg) : (afterRead s q).result = s.result :=
  afterRead_cases (P := fun t => t.result = s.result) q rfl fun _ => by simp

/-- A write of a register of `RO_SET` leaves the state as it is. -/
@[simp] theorem unlessReadOnly_of_mem {q : Reg} (t : State) (h : q ∈ s.cfg.roSet) :
    unlessReadOnly s q t = s := if_pos h

/-- A write of a register outside `RO_SET` has its effect. -/
@[simp] theorem unlessReadOnly_of_not_mem {q : Reg} (t : State) (h : q ∉ s.cfg.roSet) :
    unlessReadOnly s q t = t := if_neg h

/-- What holds of the state itself and after the effect of a write holds after the filtered write. -/
theorem unlessReadOnly_cases {P : State → Prop} (q : Reg) (t : State) (discarded : P s)
    (written : q ∉ s.cfg.roSet → P t) : P (unlessReadOnly s q t) := by
  unfold unlessReadOnly; split
  · exact discarded
  · exact written ‹_›

end Sys2Proof.Laws
end

