-- ==== Sys2Proof/Laws/Bytes.lean ====
section
/-! SUPPORT. The byte forms read back what they wrote: little-endian words and descriptors. -/
namespace Sys2Proof.Laws

open Sys2Proof.Machine

@[simp] theorem length_toLE {w : Nat} (n : Nat) (v : BitVec w) : (toLE n v).length = n := by
  induction n generalizing v with
  | zero => rfl
  | succ n ih => simp [toLE, ih]

/-- A word is read back from its four bytes. -/
@[simp] theorem fromLE_toLE_word (v : Word) : fromLE 32 (toLE 4 v) = v := by
  apply BitVec.eq_of_getLsbD_eq
  intro i hi
  simp only [toLE, fromLE, BitVec.getLsbD_or, BitVec.getLsbD_shiftLeft, BitVec.getLsbD_setWidth,
    BitVec.getLsbD_ushiftRight, BitVec.getLsbD_zero]
  interval_cases i <;> simp

/-- A descriptor word is read back from its eight bytes. -/
@[simp] theorem fromLE_toLE_dword (v : DWord) : fromLE 64 (toLE 8 v) = v := by
  apply BitVec.eq_of_getLsbD_eq
  intro i hi
  simp only [toLE, fromLE, BitVec.getLsbD_or, BitVec.getLsbD_shiftLeft, BitVec.getLsbD_setWidth,
    BitVec.getLsbD_ushiftRight, BitVec.getLsbD_zero]
  interval_cases i <;> simp

@[simp] theorem length_bytesOfWord (o : ByteOrder) (v : DWord) : (bytesOfWord o v).length = 8 := by
  cases o <;> simp [bytesOfWord]

@[simp] theorem wordOfBytes_bytesOfWord (o : ByteOrder) (v : DWord) :
    wordOfBytes o (bytesOfWord o v) = v := by
  cases o <;> simp [bytesOfWord, wordOfBytes]

@[simp] theorem length_descBytesOf (o : ByteOrder) (a b : DWord) :
    (descBytesOf o a b).length = 16 := by
  simp [descBytesOf]

/-- The first word of a descriptor is read back. -/
@[simp] theorem descWord0_descBytesOf (o : ByteOrder) (a b : DWord) :
    descWord0 o (descBytesOf o a b) = a := by
  simp [descWord0, descBytesOf]

/-- The buffer word of a descriptor is read back. -/
@[simp] theorem descWord1_descBytesOf (o : ByteOrder) (a b : DWord) :
    descWord1 o (descBytesOf o a b) = b := by
  simp [descWord1, descBytesOf, List.take_of_length_le]

/-! ### The sums of the checksum (R19) -/

theorem csumSum_append_even (a b : List Byte) (h : a.length % 2 = 0) :
    csumSum (a ++ b) = csumSum a + csumSum b := by
  induction a using csumSum.induct with
  | case1 => simp [csumSum]
  | case2 x => simp at h
  | case3 x y rest ih =>
    simp only [List.cons_append, csumSum]
    rw [ih (by simp only [List.length_cons] at h; omega)]
    omega

/-- A turn of the folding loop keeps the sum modulo 65535. -/
theorem csumFold_mod (n s : Nat) : csumFold n s % 65535 = s % 65535 := by
  induction n generalizing s with
  | zero => rfl
  | succ n ih =>
    rw [csumFold]
    split
    · rfl
    · rw [ih]; omega

/-- With as many turns as the sum, the folding loop ends below 2^16 (R19). -/
theorem csumFold_lt (n s : Nat) (h : s ≤ n + 65535) : csumFold n s < 65536 := by
  induction n generalizing s with
  | zero => rw [csumFold]; omega
  | succ n ih =>
    rw [csumFold]
    split
    · assumption
    · exact ih _ (by omega)

/-- A value read from `n` bytes has no bit from `8 n` on. -/
theorem getLsbD_fromLE_ge (w : Nat) (bs : List Byte) (i : Nat) (h : 8 * bs.length ≤ i) :
    (fromLE w bs).getLsbD i = false := by
  induction bs generalizing i with
  | nil => simp [fromLE]
  | cons b bs ih =>
    have h' : 8 * bs.length + 8 ≤ i := by simpa [Nat.mul_add] using h
    simp only [fromLE, BitVec.getLsbD_or, BitVec.getLsbD_setWidth, BitVec.getLsbD_shiftLeft,
      ih (i - 8) (by omega), BitVec.getLsbD_of_ge b i (by omega), Bool.and_false, Bool.or_self]

/-- Encoding a decoded word of at least as many bits gives its bytes back. -/
theorem toLE_fromLE (w : Nat) (bs : List Byte) (h : 8 * bs.length ≤ w) :
    toLE bs.length (fromLE w bs) = bs := by
  induction bs with
  | nil => rfl
  | cons b bs ih =>
    have h' : 8 * bs.length + 8 ≤ w := by simpa [Nat.mul_add] using h
    have low : (fromLE w (b :: bs)).setWidth 8 = b := by
      apply BitVec.eq_of_getLsbD_eq
      intro i hi
      simp [fromLE, hi, show i < w by omega]
    have high : fromLE w (b :: bs) >>> 8 = fromLE w bs := by
      apply BitVec.eq_of_getLsbD_eq
      intro i hi
      simp only [fromLE, BitVec.getLsbD_ushiftRight, BitVec.getLsbD_or, BitVec.getLsbD_setWidth,
        BitVec.getLsbD_shiftLeft, BitVec.getLsbD_of_ge b (8 + i) (by omega)]
      rcases Nat.lt_or_ge (8 + i) w with hlt | hge
      · simp [hlt]
      · rw [getLsbD_fromLE_ge w bs i (by omega)]
        simp [hge]
    rw [List.length_cons, toLE, low, high, ih (by omega)]

/-- Encoding a decoded 32-bit word gives its four bytes back. -/
theorem toLE_fromLE_word (bs : List Byte) (h : bs.length = 4) : toLE 4 (fromLE 32 bs) = bs := by
  simpa [h] using toLE_fromLE 32 bs (by omega)

/-- Encoding a decoded 64-bit word gives its eight bytes back. -/
theorem toLE_fromLE_dword (bs : List Byte) (h : bs.length = 8) : toLE 8 (fromLE 64 bs) = bs := by
  simpa [h] using toLE_fromLE 64 bs (by omega)

/-- The bytes of a descriptor word read in either order are those bytes. -/
theorem bytesOfWord_wordOfBytes (o : ByteOrder) (bs : List Byte) (h : bs.length = 8) :
    bytesOfWord o (wordOfBytes o bs) = bs := by
  cases o
  · exact toLE_fromLE_dword bs h
  · simp only [bytesOfWord, wordOfBytes]
    rw [toLE_fromLE_dword _ (by simpa using h)]
    simp

end Sys2Proof.Laws
end

