-- ==== Sys2Proof/Laws/Memory.lean ====
section
/-! SUPPORT. The laws of guest memory: a read after a write, and the canonical form. -/
namespace Sys2Proof.Laws

open Sys2Proof.Machine

/-- A read of any byte after a write of one byte. -/
@[simp] theorem readByte_writeByte (m : Memory) (a b : Addr) (v : Byte) :
    readByte (writeByte m a v) b = if a = b then v else readByte m b := by
  simp [readByte, writeByte, BitVec.toNat_inj]

theorem wf_writeByte (m : Memory) (a : Addr) (v : Byte) (h : Memory.wf m = true) :
    Memory.wf (writeByte m a v) = true :=
  sparseWf_set _ _ _ _ _ a.isLt h

/-- Storing bytes keeps the canonical form. -/
theorem wf_writeBytes (m : Memory) (a : Addr) (v : List Byte) (h : Memory.wf m = true) :
    Memory.wf (writeBytes m a v) = true := by
  induction v generalizing m a with
  | nil => exact h
  | cons b v ih => exact ih _ _ (wf_writeByte m a b h)

/-- A byte outside the stored bytes reads as before. -/
theorem readByte_writeBytes_of_ne (m : Memory) (a : Addr) (v : List Byte) (b : Addr)
    (h : ∀ i < v.length, b ≠ a + BitVec.ofNat 64 i) :
    readByte (writeBytes m a v) b = readByte m b := by
  induction v generalizing m a with
  | nil => rfl
  | cons x v ih =>
    have h0 : a ≠ b := by simpa using (h 0 (by simp)).symm
    rw [writeBytes, ih, readByte_writeByte, if_neg h0]
    intro i hi
    have := h (i + 1) (by simpa using hi)
    rwa [BitVec.ofNat_add, BitVec.add_comm (BitVec.ofNat 64 i), ← BitVec.add_assoc] at this

/-- A stored byte reads as stored, when the store does not wrap onto itself. -/
theorem readByte_writeBytes (m : Memory) (a : Addr) (v : List Byte) (i : Nat) (hi : i < v.length)
    (hv : v.length ≤ 2 ^ 64) :
    readByte (writeBytes m a v) (a + BitVec.ofNat 64 i) = v[i] := by
  induction v generalizing m a i with
  | nil => simp at hi
  | cons x v ih =>
    have hv' : v.length + 1 ≤ 2 ^ 64 := by simpa using hv
    rw [writeBytes]
    cases i with
    | zero =>
      rw [readByte_writeBytes_of_ne]
      · simp
      · intro j hj h
        have : (0#64) = 1#64 + BitVec.ofNat 64 j := by
          have h' : a + 0#64 = a + (1#64 + BitVec.ofNat 64 j) := by
            rw [← BitVec.add_assoc]; simpa using h
          exact (BitVec.add_right_inj a).mp h'
        have := congrArg BitVec.toNat this
        simp at this
        omega
    | succ i =>
      have hi' : i < v.length := by simpa using hi
      have := ih (writeByte m a x) (a + 1#64) i hi' (by omega)
      rw [BitVec.ofNat_add, BitVec.add_comm (BitVec.ofNat 64 i), ← BitVec.add_assoc]
      simpa using this

@[simp] theorem length_readBytes (m : Memory) (a : Addr) (n : Nat) :
    (readBytes m a n).length = n := by
  induction n generalizing a with
  | zero => rfl
  | succ n ih => simp [readBytes, ih]

/-- Reading back what a store that does not wrap onto itself wrote. -/
theorem readBytes_writeBytes (m : Memory) (a : Addr) (v : List Byte) (hv : v.length ≤ 2 ^ 64) :
    readBytes (writeBytes m a v) a v.length = v := by
  have key : ∀ (n : Nat) (w : Memory) (c : Addr),
      readBytes w c n = (List.range n).map fun i => readByte w (c + BitVec.ofNat 64 i) := by
    intro n
    induction n with
    | zero => intro w c; rfl
    | succ n ih =>
      intro w c
      rw [readBytes, ih, List.range_succ_eq_map]
      simp only [List.map_cons, List.map_map, Function.comp_def, BitVec.add_zero]
      congr 1
      refine List.map_congr_left fun i _ => ?_
      rw [Nat.succ_eq_add_one, BitVec.ofNat_add, BitVec.add_comm (BitVec.ofNat 64 i),
        ← BitVec.add_assoc]
  rw [key]
  apply List.ext_getElem (by simp)
  intro i h1 h2
  simpa using readByte_writeBytes m a v i h2 hv

end Sys2Proof.Laws
end

