-- ==== Sys2Proof/Laws/Receive.lean ====
section
/-! SUPPORT. What the receive engine can do: the fields it leaves alone, the registers it writes, and the bytes
it stores. -/
namespace Sys2Proof.Laws

open Sys2Proof.Machine

variable (s : State)

@[simp] theorem getWord_rxWriteBack (status buf : DWord) (k : Nat) :
    getWord (rxWriteBack s status buf) k = getWord s k := by simp [rxWriteBack]

/-- A write-back writes GREG_STAT and RXDMA_DONE and no other register (R284). -/
@[simp] theorem getReg_rxWriteBack (status buf : DWord) (r : Reg)
    (h0 : r ≠ .gregStat) (h1 : r ≠ .rxdmaDone) :
    getReg (rxWriteBack s status buf) r = getReg s r := by
  simp [rxWriteBack, h0, Ne.symm h1]

@[simp] theorem rxWriteBack_cfg (status buf : DWord) :
    (rxWriteBack s status buf).cfg = s.cfg := by simp [rxWriteBack]
@[simp] theorem rxWriteBack_words (status buf : DWord) :
    (rxWriteBack s status buf).words = s.words := by simp [rxWriteBack]
@[simp] theorem rxWriteBack_txAcc (status buf : DWord) :
    (rxWriteBack s status buf).txAcc = s.txAcc := by simp [rxWriteBack]
@[simp] theorem rxWriteBack_txFirstCtl (status buf : DWord) :
    (rxWriteBack s status buf).txFirstCtl = s.txFirstCtl := by simp [rxWriteBack]
@[simp] theorem rxWriteBack_linkUp (status buf : DWord) :
    (rxWriteBack s status buf).linkUp = s.linkUp := by simp [rxWriteBack]
@[simp] theorem rxWriteBack_requests (status buf : DWord) :
    (rxWriteBack s status buf).requests = s.requests := by simp [rxWriteBack]
@[simp] theorem rxWriteBack_result (status buf : DWord) :
    (rxWriteBack s status buf).result = s.result := by simp [rxWriteBack]

@[simp] theorem rxWriteBack_mem (status buf : DWord) :
    (rxWriteBack s status buf).mem =
      writeBytes s.mem (rxSlotAddr s) (descBytesOf s.cfg.descOrder status buf) := by
  simp [rxWriteBack]

@[simp] theorem getReg_rxWriteBack_done (status buf : DWord) :
    getReg (rxWriteBack s status buf) .rxdmaDone = advance (rxMask s) (rxCursor s) := by
  simp [rxWriteBack]

/-- The status bits of a stored frame, with the ring-full bit when the advanced cursor fills the ring
(R284). -/
@[simp] theorem getReg_rxWriteBack_stat (status buf : DWord) :
    getReg (rxWriteBack s status buf) .gregStat =
      getReg s .gregStat ||| (if ringFull (rxMask s) (getReg s .rxdmaKick)
        (advance (rxMask s) (rxCursor s)) then s.cfg.statRxDone ||| s.cfg.statRxNoBuf
        else s.cfg.statRxDone) := by
  simp [rxWriteBack, withBits, rxCompletionBits, rxFull, rxMask]
  rfl

@[simp] theorem getWord_rxStore (g : List Byte) (m : AddrMatch) (k : Nat) :
    getWord (rxStore s g m) k = getWord s k := by simp [rxStore]

@[simp] theorem getReg_rxStore (g : List Byte) (m : AddrMatch) (r : Reg)
    (h0 : r ≠ .gregStat) (h1 : r ≠ .rxdmaDone) :
    getReg (rxStore s g m) r = getReg s r := by
  simp [rxStore, h0, h1]

@[simp] theorem rxStore_cfg (g : List Byte) (m : AddrMatch) :
    (rxStore s g m).cfg = s.cfg := by simp [rxStore]
@[simp] theorem rxStore_words (g : List Byte) (m : AddrMatch) :
    (rxStore s g m).words = s.words := by simp [rxStore]
@[simp] theorem rxStore_txAcc (g : List Byte) (m : AddrMatch) :
    (rxStore s g m).txAcc = s.txAcc := by simp [rxStore]
@[simp] theorem rxStore_txFirstCtl (g : List Byte) (m : AddrMatch) :
    (rxStore s g m).txFirstCtl = s.txFirstCtl := by simp [rxStore]
@[simp] theorem rxStore_linkUp (g : List Byte) (m : AddrMatch) :
    (rxStore s g m).linkUp = s.linkUp := by simp [rxStore]
@[simp] theorem rxStore_requests (g : List Byte) (m : AddrMatch) :
    (rxStore s g m).requests = s.requests := by simp [rxStore]
@[simp] theorem rxStore_result (g : List Byte) (m : AddrMatch) :
    (rxStore s g m).result = s.result := by simp [rxStore]

@[simp] theorem getWord_deliver (f : List Byte) (k : Nat) :
    getWord (deliver s f).2 k = getWord s k := by
  simp only [deliver]; (repeat' split) <;> simp

@[simp] theorem getReg_deliver (f : List Byte) (r : Reg)
    (h0 : r ≠ .gregStat) (h1 : r ≠ .rxdmaDone) :
    getReg (deliver s f).2 r = getReg s r := by
  simp only [deliver]; (repeat' split) <;> simp [h0, h1]

@[simp] theorem deliver_cfg (f : List Byte) :
    (deliver s f).2.cfg = s.cfg := by simp only [deliver]; (repeat' split) <;> simp
@[simp] theorem deliver_words (f : List Byte) :
    (deliver s f).2.words = s.words := by simp only [deliver]; (repeat' split) <;> simp
@[simp] theorem deliver_txAcc (f : List Byte) :
    (deliver s f).2.txAcc = s.txAcc := by simp only [deliver]; (repeat' split) <;> simp
@[simp] theorem deliver_txFirstCtl (f : List Byte) :
    (deliver s f).2.txFirstCtl = s.txFirstCtl := by simp only [deliver]; (repeat' split) <;> simp
@[simp] theorem deliver_linkUp (f : List Byte) :
    (deliver s f).2.linkUp = s.linkUp := by simp only [deliver]; (repeat' split) <;> simp
@[simp] theorem deliver_requests (f : List Byte) :
    (deliver s f).2.requests = s.requests := by simp only [deliver]; (repeat' split) <;> simp
@[simp] theorem deliver_result (f : List Byte) :
    (deliver s f).2.result = s.result := by simp only [deliver]; (repeat' split) <;> simp

end Sys2Proof.Laws
end

