-- ==== Sys2Proof/Laws/ResetPhy.lean ====
section
/-! SUPPORT. What the reset procedures and the transceiver stub can do: the fields they leave alone and the
registers they write. -/
namespace Sys2Proof.Laws

open Sys2Proof.Machine

variable (s : State)

/-! ### The reset procedures (R341 to R343) -/

@[simp] theorem getWord_resetRx (k : Nat) :
    getWord (resetRx s) k = getWord s k := by simp [resetRx]

@[simp] theorem getReg_resetRx (r : Reg)
    (h0 : r ≠ .rxdmaFsz) (h1 : r ≠ .rxdmaDone) (h2 : r ≠ .rxdmaKick) (h3 : r ≠ .rxdmaCfg) :
    getReg (resetRx s) r = getReg s r := by
  simp [resetRx, Ne.symm h0, Ne.symm h1, Ne.symm h2, Ne.symm h3]

@[simp] theorem resetRx_cfg : (resetRx s).cfg = s.cfg := by simp [resetRx]
@[simp] theorem resetRx_words : (resetRx s).words = s.words := by simp [resetRx]
@[simp] theorem resetRx_txAcc : (resetRx s).txAcc = s.txAcc := by simp [resetRx]
@[simp] theorem resetRx_txFirstCtl : (resetRx s).txFirstCtl = s.txFirstCtl := by simp [resetRx]
@[simp] theorem resetRx_irq : (resetRx s).irq = s.irq := by simp [resetRx]
@[simp] theorem resetRx_linkUp : (resetRx s).linkUp = s.linkUp := by simp [resetRx]
@[simp] theorem resetRx_mem : (resetRx s).mem = s.mem := by simp [resetRx]
@[simp] theorem resetRx_requests : (resetRx s).requests = s.requests := by simp [resetRx]
@[simp] theorem resetRx_result : (resetRx s).result = s.result := by simp [resetRx]
@[simp] theorem resetRx_trace : (resetRx s).trace = s.trace := by simp [resetRx]

theorem getReg_resetRx_regs :
    getReg (resetRx s) .rxdmaFsz = s.cfg.resetRxdmaFsz ∧ getReg (resetRx s) .rxdmaDone = 0#32 ∧
      getReg (resetRx s) .rxdmaKick = 0#32 ∧ getReg (resetRx s) .rxdmaCfg = s.cfg.resetRxdmaCfg := by
  simp [resetRx]

@[simp] theorem getWord_resetTx (k : Nat) :
    getWord (resetTx s) k = getWord s k := by simp [resetTx]

@[simp] theorem getReg_resetTx (r : Reg)
    (h0 : r ≠ .txdmaFsz) (h1 : r ≠ .txdmaTxdone) (h2 : r ≠ .txdmaKick) (h3 : r ≠ .txdmaCfg) :
    getReg (resetTx s) r = getReg s r := by
  simp [resetTx, Ne.symm h0, Ne.symm h1, Ne.symm h2, Ne.symm h3]

@[simp] theorem resetTx_cfg : (resetTx s).cfg = s.cfg := by simp [resetTx]
@[simp] theorem resetTx_words : (resetTx s).words = s.words := by simp [resetTx]
@[simp] theorem resetTx_irq : (resetTx s).irq = s.irq := by simp [resetTx]
@[simp] theorem resetTx_linkUp : (resetTx s).linkUp = s.linkUp := by simp [resetTx]
@[simp] theorem resetTx_mem : (resetTx s).mem = s.mem := by simp [resetTx]
@[simp] theorem resetTx_requests : (resetTx s).requests = s.requests := by simp [resetTx]
@[simp] theorem resetTx_result : (resetTx s).result = s.result := by simp [resetTx]
@[simp] theorem resetTx_trace : (resetTx s).trace = s.trace := by simp [resetTx]

@[simp] theorem resetTx_txAcc : (resetTx s).txAcc = [] := by simp [resetTx]
@[simp] theorem resetTx_txFirstCtl : (resetTx s).txFirstCtl = 0#64 := by simp [resetTx]

theorem getReg_resetTx_regs :
    getReg (resetTx s) .txdmaFsz = s.cfg.resetTxdmaFsz ∧ getReg (resetTx s) .txdmaTxdone = 0#32 ∧
      getReg (resetTx s) .txdmaKick = 0#32 ∧ getReg (resetTx s) .txdmaCfg = s.cfg.resetTxdmaCfg := by
  simp [resetTx]

@[simp] theorem getWord_loadStationAddress (k : Nat) :
    getWord (loadStationAddress s) k = getWord s k := by simp [loadStationAddress]

@[simp] theorem getReg_loadStationAddress (r : Reg)
    (h0 : r ≠ .macAddr0) (h1 : r ≠ .macAddr1) (h2 : r ≠ .macAddr2) :
    getReg (loadStationAddress s) r = getReg s r := by
  simp [loadStationAddress, Ne.symm h0, Ne.symm h1, Ne.symm h2]

@[simp] theorem loadStationAddress_cfg :
    (loadStationAddress s).cfg = s.cfg := by simp [loadStationAddress]
@[simp] theorem loadStationAddress_words :
    (loadStationAddress s).words = s.words := by simp [loadStationAddress]
@[simp] theorem loadStationAddress_txAcc :
    (loadStationAddress s).txAcc = s.txAcc := by simp [loadStationAddress]
@[simp] theorem loadStationAddress_txFirstCtl :
    (loadStationAddress s).txFirstCtl = s.txFirstCtl := by simp [loadStationAddress]
@[simp] theorem loadStationAddress_irq :
    (loadStationAddress s).irq = s.irq := by simp [loadStationAddress]
@[simp] theorem loadStationAddress_linkUp :
    (loadStationAddress s).linkUp = s.linkUp := by simp [loadStationAddress]
@[simp] theorem loadStationAddress_mem :
    (loadStationAddress s).mem = s.mem := by simp [loadStationAddress]
@[simp] theorem loadStationAddress_requests :
    (loadStationAddress s).requests = s.requests := by simp [loadStationAddress]
@[simp] theorem loadStationAddress_result :
    (loadStationAddress s).result = s.result := by simp [loadStationAddress]
@[simp] theorem loadStationAddress_trace :
    (loadStationAddress s).trace = s.trace := by simp [loadStationAddress]

theorem getReg_loadStationAddress_regs :
    getReg (loadStationAddress s) .macAddr0 = macWord0 s.cfg.macAddr ∧
      getReg (loadStationAddress s) .macAddr1 = macWord1 s.cfg.macAddr ∧
      getReg (loadStationAddress s) .macAddr2 = macWord2 s.cfg.macAddr := by
  simp [loadStationAddress]

@[simp] theorem getWord_resetAll (b : Bool) (k : Nat) :
    getWord (resetAll s b) k = getWord s k := by cases b <;> simp [resetAll]

@[simp] theorem resetAll_cfg (b : Bool) :
    (resetAll s b).cfg = s.cfg := by cases b <;> simp [resetAll]
@[simp] theorem resetAll_words (b : Bool) :
    (resetAll s b).words = s.words := by cases b <;> simp [resetAll]
@[simp] theorem resetAll_linkUp (b : Bool) :
    (resetAll s b).linkUp = s.linkUp := by cases b <;> simp [resetAll]
@[simp] theorem resetAll_mem (b : Bool) :
    (resetAll s b).mem = s.mem := by cases b <;> simp [resetAll]
@[simp] theorem resetAll_requests (b : Bool) :
    (resetAll s b).requests = s.requests := by cases b <;> simp [resetAll]
@[simp] theorem resetAll_result (b : Bool) :
    (resetAll s b).result = s.result := by cases b <;> simp [resetAll]

@[simp] theorem resetAll_txAcc (b : Bool) : (resetAll s b).txAcc = [] := by
  cases b <;> simp [resetAll]
@[simp] theorem resetAll_txFirstCtl (b : Bool) : (resetAll s b).txFirstCtl = 0#64 := by
  cases b <;> simp [resetAll]

/-- No status bit is left, so the line is low. -/
@[simp] theorem resetAll_irq (b : Bool) : (resetAll s b).irq = false := by
  cases b <;> simp [resetAll, irqLevel, pendingBits]

/-- The registers `ResetAll` writes (R343). -/
theorem getReg_resetAll_regs (b : Bool) :
    getReg (resetAll s b) .gregImask = s.cfg.resetImask ∧ getReg (resetAll s b) .gregStat = 0#32 ∧
      getReg (resetAll s b) .mifCfg = s.cfg.resetMifCfg ∧
      getReg (resetAll s b) .gregSwrst =
        (if b then 0#32 else getReg s .gregSwrst &&& s.cfg.swrstRstout) := by
  cases b <;> simp [resetAll]

/-- The registers of the two engines after `ResetAll` (R341, R342). -/
theorem getReg_resetAll_engines (b : Bool) (r : Reg)
    (h : r ∈ [Reg.rxdmaFsz, .rxdmaDone, .rxdmaKick, .rxdmaCfg, .txdmaFsz, .txdmaTxdone,
      .txdmaKick, .txdmaCfg]) :
    getReg (resetAll s b) r = getReg (resetTx (resetRx s)) r := by
  fin_cases h <;> cases b <;> simp [resetAll]

/-- The station address: reprogrammed by a bus reset, kept by a soft reset (R343). -/
theorem getReg_resetAll_station (b : Bool) :
    getReg (resetAll s b) .macAddr0 =
        (if b then macWord0 s.cfg.macAddr else getReg s .macAddr0) ∧
      getReg (resetAll s b) .macAddr1 =
        (if b then macWord1 s.cfg.macAddr else getReg s .macAddr1) ∧
      getReg (resetAll s b) .macAddr2 =
        (if b then macWord2 s.cfg.macAddr else getReg s .macAddr2) := by
  cases b <;> simp [resetAll, loadStationAddress]

/-- `ResetAll` writes no other register. -/
theorem getReg_resetAll (b : Bool) (r : Reg)
    (h : r ∉ [Reg.rxdmaFsz, .rxdmaDone, .rxdmaKick, .rxdmaCfg, .txdmaFsz, .txdmaTxdone, .txdmaKick,
      .txdmaCfg, .gregImask, .gregStat, .gregSwrst, .mifCfg, .macAddr0, .macAddr1, .macAddr2]) :
    getReg (resetAll s b) r = getReg s r := by
  revert h
  cases r <;> intro h <;> first
    | (exfalso; revert h; decide)
    | (cases b <;> simp [resetAll])

/-! ### The transceiver stub -/

@[simp] theorem miiOp_regs (v : Word) : (miiOp s v).2.regs = s.regs := by
  simp only [miiOp]; (repeat' split) <;> simp

@[simp] theorem getReg_miiOp (v : Word) (r : Reg) :
    getReg (miiOp s v).2 r = getReg s r := by
  simp only [miiOp]; (repeat' split) <;> simp
@[simp] theorem getWord_miiOp (v : Word) (k : Nat) :
    getWord (miiOp s v).2 k = getWord s k := by
  simp only [miiOp]; (repeat' split) <;> simp

@[simp] theorem miiOp_cfg (v : Word) :
    (miiOp s v).2.cfg = s.cfg := by simp only [miiOp]; (repeat' split) <;> simp
@[simp] theorem miiOp_words (v : Word) :
    (miiOp s v).2.words = s.words := by simp only [miiOp]; (repeat' split) <;> simp
@[simp] theorem miiOp_txAcc (v : Word) :
    (miiOp s v).2.txAcc = s.txAcc := by simp only [miiOp]; (repeat' split) <;> simp
@[simp] theorem miiOp_txFirstCtl (v : Word) :
    (miiOp s v).2.txFirstCtl = s.txFirstCtl := by simp only [miiOp]; (repeat' split) <;> simp
@[simp] theorem miiOp_irq (v : Word) :
    (miiOp s v).2.irq = s.irq := by simp only [miiOp]; (repeat' split) <;> simp
@[simp] theorem miiOp_linkUp (v : Word) :
    (miiOp s v).2.linkUp = s.linkUp := by simp only [miiOp]; (repeat' split) <;> simp
@[simp] theorem miiOp_mem (v : Word) :
    (miiOp s v).2.mem = s.mem := by simp only [miiOp]; (repeat' split) <;> simp
@[simp] theorem miiOp_requests (v : Word) :
    (miiOp s v).2.requests = s.requests := by simp only [miiOp]; (repeat' split) <;> simp
@[simp] theorem miiOp_result (v : Word) :
    (miiOp s v).2.result = s.result := by simp only [miiOp]; (repeat' split) <;> simp

/-- A management operation reads no register and no earlier output (R211 to R217): its result depends
on the configuration and the link flag only. -/
theorem miiOp_result_congr (t : State) (v : Word) (hc : s.cfg = t.cfg) (hl : s.linkUp = t.linkUp) :
    (miiOp s v).1 = (miiOp t v).1 := by
  simp only [miiOp, mifReadResult, mifWriteResult, hc, hl]; (repeat' split) <;> rfl

@[simp] theorem getReg_storeFrame (v res : Word) (r : Reg) :
    getReg (storeFrame s v res) r = if r = .mifFrame then res else getReg s r := by
  simp only [storeFrame, getReg_setReg, eq_comm]; split <;> rfl

@[simp] theorem getReg_writeMifFrame (v : Word) (r : Reg) :
    getReg (writeMifFrame s v) r = if r = .mifFrame then (miiOp s v).1 else getReg s r := by
  rw [← miiOp_result_congr (setReg s .mifFrame v) s v rfl rfl]
  simp only [writeMifFrame, getReg_setReg, getReg_miiOp, eq_comm]; split <;> rfl

@[simp] theorem getWord_storeFrame (v res : Word) (k : Nat) :
    getWord (storeFrame s v res) k = getWord s k := by simp [storeFrame]

@[simp] theorem storeFrame_cfg (v res : Word) :
    (storeFrame s v res).cfg = s.cfg := by simp [storeFrame]
@[simp] theorem storeFrame_words (v res : Word) :
    (storeFrame s v res).words = s.words := by simp [storeFrame]
@[simp] theorem storeFrame_txAcc (v res : Word) :
    (storeFrame s v res).txAcc = s.txAcc := by simp [storeFrame]
@[simp] theorem storeFrame_txFirstCtl (v res : Word) :
    (storeFrame s v res).txFirstCtl = s.txFirstCtl := by simp [storeFrame]
@[simp] theorem storeFrame_irq (v res : Word) :
    (storeFrame s v res).irq = s.irq := by simp [storeFrame]
@[simp] theorem storeFrame_linkUp (v res : Word) :
    (storeFrame s v res).linkUp = s.linkUp := by simp [storeFrame]
@[simp] theorem storeFrame_mem (v res : Word) :
    (storeFrame s v res).mem = s.mem := by simp [storeFrame]
@[simp] theorem storeFrame_requests (v res : Word) :
    (storeFrame s v res).requests = s.requests := by simp [storeFrame]
@[simp] theorem storeFrame_result (v res : Word) :
    (storeFrame s v res).result = s.result := by simp [storeFrame]
@[simp] theorem storeFrame_trace (v res : Word) :
    (storeFrame s v res).trace = s.trace := by simp [storeFrame]

@[simp] theorem getWord_writeMifFrame (v : Word) (k : Nat) :
    getWord (writeMifFrame s v) k = getWord s k := by simp [writeMifFrame]

@[simp] theorem writeMifFrame_cfg (v : Word) :
    (writeMifFrame s v).cfg = s.cfg := by simp [writeMifFrame]
@[simp] theorem writeMifFrame_words (v : Word) :
    (writeMifFrame s v).words = s.words := by simp [writeMifFrame]
@[simp] theorem writeMifFrame_txAcc (v : Word) :
    (writeMifFrame s v).txAcc = s.txAcc := by simp [writeMifFrame]
@[simp] theorem writeMifFrame_txFirstCtl (v : Word) :
    (writeMifFrame s v).txFirstCtl = s.txFirstCtl := by simp [writeMifFrame]
@[simp] theorem writeMifFrame_irq (v : Word) :
    (writeMifFrame s v).irq = s.irq := by simp [writeMifFrame]
@[simp] theorem writeMifFrame_linkUp (v : Word) :
    (writeMifFrame s v).linkUp = s.linkUp := by simp [writeMifFrame]
@[simp] theorem writeMifFrame_mem (v : Word) :
    (writeMifFrame s v).mem = s.mem := by simp [writeMifFrame]
@[simp] theorem writeMifFrame_requests (v : Word) :
    (writeMifFrame s v).requests = s.requests := by simp [writeMifFrame]
@[simp] theorem writeMifFrame_result (v : Word) :
    (writeMifFrame s v).result = s.result := by simp [writeMifFrame]

end Sys2Proof.Laws
end

