-- ==== Sys2Proof/Laws/Transmit.lean ====
section
/-! SUPPORT. What the transmit engine can do: the fields it leaves alone, the registers it writes, and a rule
for its loop. -/
namespace Sys2Proof.Laws

open Sys2Proof.Machine

variable (s : State)

/-! ### The parts of `ProcessTxDesc` -/

@[simp] theorem getReg_beginFrame (ctl : DWord) (r : Reg) :
    getReg (beginFrame s ctl) r = getReg s r := by
  unfold beginFrame; (repeat' split) <;> simp
@[simp] theorem getWord_beginFrame (ctl : DWord) (k : Nat) :
    getWord (beginFrame s ctl) k = getWord s k := by
  unfold beginFrame; (repeat' split) <;> simp

@[simp] theorem beginFrame_cfg (ctl : DWord) :
    (beginFrame s ctl).cfg = s.cfg := by unfold beginFrame; split <;> (try split) <;> simp
@[simp] theorem beginFrame_words (ctl : DWord) :
    (beginFrame s ctl).words = s.words := by unfold beginFrame; split <;> (try split) <;> simp
@[simp] theorem beginFrame_irq (ctl : DWord) :
    (beginFrame s ctl).irq = s.irq := by unfold beginFrame; split <;> (try split) <;> simp
@[simp] theorem beginFrame_linkUp (ctl : DWord) :
    (beginFrame s ctl).linkUp = s.linkUp := by unfold beginFrame; split <;> (try split) <;> simp
@[simp] theorem beginFrame_mem (ctl : DWord) :
    (beginFrame s ctl).mem = s.mem := by unfold beginFrame; split <;> (try split) <;> simp
@[simp] theorem beginFrame_requests (ctl : DWord) :
    (beginFrame s ctl).requests = s.requests := by unfold beginFrame; split <;> (try split) <;> simp
@[simp] theorem beginFrame_result (ctl : DWord) :
    (beginFrame s ctl).result = s.result := by unfold beginFrame; split <;> (try split) <;> simp

/-- The frame in assembly after the start-of-frame part (R237). -/
@[simp] theorem beginFrame_txAcc (ctl : DWord) :
    (beginFrame s ctl).txAcc = if anySet ctl s.cfg.txdSof then [] else s.txAcc := by
  unfold beginFrame; split <;> simp

@[simp] theorem beginFrame_txFirstCtl (ctl : DWord) :
    (beginFrame s ctl).txFirstCtl = if anySet ctl s.cfg.txdSof then ctl else s.txFirstCtl := by
  unfold beginFrame; split <;> simp

@[simp] theorem getReg_appendPayload (ctl : DWord) (buf : Addr) (r : Reg) :
    getReg (appendPayload s ctl buf) r = getReg s r := by
  simp only [appendPayload]; split <;> simp
@[simp] theorem getWord_appendPayload (ctl : DWord) (buf : Addr) (k : Nat) :
    getWord (appendPayload s ctl buf) k = getWord s k := by
  simp only [appendPayload]; split <;> simp

@[simp] theorem appendPayload_cfg (ctl : DWord) (buf : Addr) :
    (appendPayload s ctl buf).cfg = s.cfg := by simp only [appendPayload]; split <;> simp
@[simp] theorem appendPayload_words (ctl : DWord) (buf : Addr) :
    (appendPayload s ctl buf).words = s.words := by simp only [appendPayload]; split <;> simp
@[simp] theorem appendPayload_txFirstCtl (ctl : DWord) (buf : Addr) :
    (appendPayload s ctl buf).txFirstCtl = s.txFirstCtl := by
  simp only [appendPayload]; split <;> simp
@[simp] theorem appendPayload_irq (ctl : DWord) (buf : Addr) :
    (appendPayload s ctl buf).irq = s.irq := by simp only [appendPayload]; split <;> simp
@[simp] theorem appendPayload_linkUp (ctl : DWord) (buf : Addr) :
    (appendPayload s ctl buf).linkUp = s.linkUp := by simp only [appendPayload]; split <;> simp
@[simp] theorem appendPayload_mem (ctl : DWord) (buf : Addr) :
    (appendPayload s ctl buf).mem = s.mem := by simp only [appendPayload]; split <;> simp
@[simp] theorem appendPayload_requests (ctl : DWord) (buf : Addr) :
    (appendPayload s ctl buf).requests = s.requests := by simp only [appendPayload]; split <;> simp
@[simp] theorem appendPayload_result (ctl : DWord) (buf : Addr) :
    (appendPayload s ctl buf).result = s.result := by simp only [appendPayload]; split <;> simp

/-- The payload part appends the bytes at the buffer address, as many as fit (R238, R239). -/
@[simp] theorem appendPayload_txAcc (ctl : DWord) (buf : Addr) :
    (appendPayload s ctl buf).txAcc = s.txAcc ++ readBytes s.mem buf (copyLength s ctl) := by
  simp only [appendPayload]; split <;> simp

/-- The payload part keeps the bound of the accumulator (R56). -/
theorem length_appendPayload (ctl : DWord) (buf : Addr) (h : s.txAcc.length ≤ s.cfg.txAccMax) :
    (appendPayload s ctl buf).txAcc.length ≤ s.cfg.txAccMax := by
  simp [copyLength]; omega

@[simp] theorem getReg_txChecksum (r : Reg) :
    getReg (txChecksum s) r = getReg s r := by
  simp only [txChecksum]; split <;> simp
@[simp] theorem getWord_txChecksum (k : Nat) :
    getWord (txChecksum s) k = getWord s k := by
  simp only [txChecksum]; split <;> simp

@[simp] theorem txChecksum_cfg :
    (txChecksum s).cfg = s.cfg := by simp only [txChecksum]; split <;> simp
@[simp] theorem txChecksum_words :
    (txChecksum s).words = s.words := by simp only [txChecksum]; split <;> simp
@[simp] theorem txChecksum_txFirstCtl :
    (txChecksum s).txFirstCtl = s.txFirstCtl := by simp only [txChecksum]; split <;> simp
@[simp] theorem txChecksum_irq :
    (txChecksum s).irq = s.irq := by simp only [txChecksum]; split <;> simp
@[simp] theorem txChecksum_linkUp :
    (txChecksum s).linkUp = s.linkUp := by simp only [txChecksum]; split <;> simp
@[simp] theorem txChecksum_mem :
    (txChecksum s).mem = s.mem := by simp only [txChecksum]; split <;> simp
@[simp] theorem txChecksum_requests :
    (txChecksum s).requests = s.requests := by simp only [txChecksum]; split <;> simp
@[simp] theorem txChecksum_result :
    (txChecksum s).result = s.result := by simp only [txChecksum]; split <;> simp

/-- The checksum replaces bytes and does not change the length. -/
@[simp] theorem length_txChecksum : (txChecksum s).txAcc.length = s.txAcc.length := by
  simp only [txChecksum]; split <;> simp [insertChecksum]

@[simp] theorem getReg_handOn (f : List Byte) (r : Reg) :
    getReg (handOn s f) r = getReg s r := by
  unfold handOn; (repeat' split) <;> simp
@[simp] theorem getWord_handOn (f : List Byte) (k : Nat) :
    getWord (handOn s f) k = getWord s k := by
  unfold handOn; (repeat' split) <;> simp

@[simp] theorem handOn_cfg (f : List Byte) :
    (handOn s f).cfg = s.cfg := by
  unfold handOn; split <;> simp
@[simp] theorem handOn_words (f : List Byte) :
    (handOn s f).words = s.words := by
  unfold handOn; split <;> simp
@[simp] theorem handOn_txAcc (f : List Byte) :
    (handOn s f).txAcc = s.txAcc := by
  unfold handOn; split <;> simp
@[simp] theorem handOn_txFirstCtl (f : List Byte) :
    (handOn s f).txFirstCtl = s.txFirstCtl := by
  unfold handOn; split <;> simp
@[simp] theorem handOn_irq (f : List Byte) :
    (handOn s f).irq = s.irq := by
  unfold handOn; split <;> simp
@[simp] theorem handOn_linkUp (f : List Byte) :
    (handOn s f).linkUp = s.linkUp := by
  unfold handOn; split <;> simp
@[simp] theorem handOn_mem (f : List Byte) :
    (handOn s f).mem = s.mem := by
  unfold handOn; split <;> simp
@[simp] theorem handOn_requests (f : List Byte) :
    (handOn s f).requests = s.requests := by
  unfold handOn; split <;> simp
@[simp] theorem handOn_result (f : List Byte) :
    (handOn s f).result = s.result := by
  unfold handOn; split <;> simp

@[simp] theorem getReg_endFrame (ctl : DWord) (r : Reg) :
    getReg (endFrame s ctl) r = getReg s r := by
  simp only [endFrame]; (repeat' split) <;> simp
@[simp] theorem getWord_endFrame (ctl : DWord) (k : Nat) :
    getWord (endFrame s ctl) k = getWord s k := by
  simp only [endFrame]; (repeat' split) <;> simp

@[simp] theorem endFrame_cfg (ctl : DWord) :
    (endFrame s ctl).cfg = s.cfg := by simp only [endFrame]; (repeat' split) <;> simp
@[simp] theorem endFrame_words (ctl : DWord) :
    (endFrame s ctl).words = s.words := by simp only [endFrame]; (repeat' split) <;> simp
@[simp] theorem endFrame_irq (ctl : DWord) :
    (endFrame s ctl).irq = s.irq := by simp only [endFrame]; (repeat' split) <;> simp
@[simp] theorem endFrame_linkUp (ctl : DWord) :
    (endFrame s ctl).linkUp = s.linkUp := by simp only [endFrame]; (repeat' split) <;> simp
@[simp] theorem endFrame_mem (ctl : DWord) :
    (endFrame s ctl).mem = s.mem := by simp only [endFrame]; (repeat' split) <;> simp
@[simp] theorem endFrame_requests (ctl : DWord) :
    (endFrame s ctl).requests = s.requests := by simp only [endFrame]; (repeat' split) <;> simp
@[simp] theorem endFrame_result (ctl : DWord) :
    (endFrame s ctl).result = s.result := by simp only [endFrame]; (repeat' split) <;> simp

/-- The end-of-frame part leaves the accumulator empty after the last descriptor of a frame (R241). -/
@[simp] theorem endFrame_txAcc (ctl : DWord) :
    (endFrame s ctl).txAcc = if anySet ctl s.cfg.txdEof then [] else s.txAcc := by
  simp only [endFrame]; split <;> simp

@[simp] theorem endFrame_txFirstCtl (ctl : DWord) :
    (endFrame s ctl).txFirstCtl = if anySet ctl s.cfg.txdEof then 0#64 else s.txFirstCtl := by
  simp only [endFrame]; split <;> simp

@[simp] theorem getReg_processTxDesc (ctl : DWord) (buf : Addr) (r : Reg) :
    getReg (processTxDesc s ctl buf) r = getReg s r := by simp [processTxDesc]
@[simp] theorem getWord_processTxDesc (ctl : DWord) (buf : Addr) (k : Nat) :
    getWord (processTxDesc s ctl buf) k = getWord s k := by simp [processTxDesc]

@[simp] theorem processTxDesc_cfg (ctl : DWord) (buf : Addr) :
    (processTxDesc s ctl buf).cfg = s.cfg := by simp [processTxDesc]
@[simp] theorem processTxDesc_words (ctl : DWord) (buf : Addr) :
    (processTxDesc s ctl buf).words = s.words := by simp [processTxDesc]
@[simp] theorem processTxDesc_irq (ctl : DWord) (buf : Addr) :
    (processTxDesc s ctl buf).irq = s.irq := by simp [processTxDesc]
@[simp] theorem processTxDesc_linkUp (ctl : DWord) (buf : Addr) :
    (processTxDesc s ctl buf).linkUp = s.linkUp := by simp [processTxDesc]
@[simp] theorem processTxDesc_mem (ctl : DWord) (buf : Addr) :
    (processTxDesc s ctl buf).mem = s.mem := by simp [processTxDesc]
@[simp] theorem processTxDesc_requests (ctl : DWord) (buf : Addr) :
    (processTxDesc s ctl buf).requests = s.requests := by simp [processTxDesc]
@[simp] theorem processTxDesc_result (ctl : DWord) (buf : Addr) :
    (processTxDesc s ctl buf).result = s.result := by simp [processTxDesc]

/-- Processing a descriptor keeps the bound of the accumulator (R56). -/
theorem length_processTxDesc (ctl : DWord) (buf : Addr) (h : s.txAcc.length ≤ s.cfg.txAccMax) :
    (processTxDesc s ctl buf).txAcc.length ≤ s.cfg.txAccMax := by
  have := length_appendPayload (beginFrame s ctl) ctl buf
    (by rw [beginFrame_txAcc, beginFrame_cfg]; split
        · exact Nat.zero_le _
        · exact h)
  rw [beginFrame_cfg] at this
  unfold processTxDesc
  rw [endFrame_txAcc]
  split
  · exact Nat.zero_le _
  · exact this

/-! ### One turn of the loop, and the loop -/

@[simp] theorem getWord_txSlot (mask comp : Word) (ctl : DWord) (buf : Addr) (k : Nat) :
    getWord (txSlot s mask comp ctl buf) k = getWord s k := by simp [txSlot]

/-- A turn writes GREG_STAT and TXDMA_TXDONE and no other register (R246, R247). -/
@[simp] theorem getReg_txSlot (mask comp : Word) (ctl : DWord) (buf : Addr) (r : Reg)
    (h0 : r ≠ .gregStat) (h1 : r ≠ .txdmaTxdone) :
    getReg (txSlot s mask comp ctl buf) r = getReg s r := by
  simp [txSlot, h0, Ne.symm h1]

@[simp] theorem getReg_txSlot_txdone (mask comp : Word) (ctl : DWord) (buf : Addr) :
    getReg (txSlot s mask comp ctl buf) .txdmaTxdone = advance mask comp := by simp [txSlot]

@[simp] theorem getReg_txSlot_stat (mask comp : Word) (ctl : DWord) (buf : Addr) :
    getReg (txSlot s mask comp ctl buf) .gregStat =
      getReg s .gregStat ||| completionBits s.cfg ctl := by simp [txSlot, withBits]

@[simp] theorem txSlot_irq (mask comp : Word) (ctl : DWord) (buf : Addr) :
    (txSlot s mask comp ctl buf).irq =
      irqLevel s.cfg (getReg s .gregStat ||| completionBits s.cfg ctl) (getReg s .gregImask) := by
  simp [txSlot, withBits]

@[simp] theorem txSlot_txAcc (mask comp : Word) (ctl : DWord) (buf : Addr) :
    (txSlot s mask comp ctl buf).txAcc = (processTxDesc s ctl buf).txAcc := by simp [txSlot]

@[simp] theorem txSlot_txFirstCtl (mask comp : Word) (ctl : DWord) (buf : Addr) :
    (txSlot s mask comp ctl buf).txFirstCtl = (processTxDesc s ctl buf).txFirstCtl := by
  simp [txSlot]

@[simp] theorem txSlot_cfg (mask comp : Word) (ctl : DWord) (buf : Addr) :
    (txSlot s mask comp ctl buf).cfg = s.cfg := by simp [txSlot]
@[simp] theorem txSlot_words (mask comp : Word) (ctl : DWord) (buf : Addr) :
    (txSlot s mask comp ctl buf).words = s.words := by simp [txSlot]
@[simp] theorem txSlot_linkUp (mask comp : Word) (ctl : DWord) (buf : Addr) :
    (txSlot s mask comp ctl buf).linkUp = s.linkUp := by simp [txSlot]
@[simp] theorem txSlot_mem (mask comp : Word) (ctl : DWord) (buf : Addr) :
    (txSlot s mask comp ctl buf).mem = s.mem := by simp [txSlot]
@[simp] theorem txSlot_requests (mask comp : Word) (ctl : DWord) (buf : Addr) :
    (txSlot s mask comp ctl buf).requests = s.requests := by simp [txSlot]
@[simp] theorem txSlot_result (mask comp : Word) (ctl : DWord) (buf : Addr) :
    (txSlot s mask comp ctl buf).result = s.result := by simp [txSlot]

@[simp] theorem getWord_txFetchSlot (base : Addr) (mask comp : Word) (k : Nat) :
    getWord (txFetchSlot s base mask comp) k = getWord s k := by simp [txFetchSlot]

@[simp] theorem getReg_txFetchSlot (base : Addr) (mask comp : Word) (r : Reg)
    (h0 : r ≠ .gregStat) (h1 : r ≠ .txdmaTxdone) :
    getReg (txFetchSlot s base mask comp) r = getReg s r := by
  simp [txFetchSlot, h0, h1]

@[simp] theorem txFetchSlot_cfg (base : Addr) (mask comp : Word) :
    (txFetchSlot s base mask comp).cfg = s.cfg := by simp [txFetchSlot]
@[simp] theorem txFetchSlot_words (base : Addr) (mask comp : Word) :
    (txFetchSlot s base mask comp).words = s.words := by simp [txFetchSlot]
@[simp] theorem txFetchSlot_linkUp (base : Addr) (mask comp : Word) :
    (txFetchSlot s base mask comp).linkUp = s.linkUp := by simp [txFetchSlot]
@[simp] theorem txFetchSlot_mem (base : Addr) (mask comp : Word) :
    (txFetchSlot s base mask comp).mem = s.mem := by simp [txFetchSlot]
@[simp] theorem txFetchSlot_requests (base : Addr) (mask comp : Word) :
    (txFetchSlot s base mask comp).requests = s.requests := by simp [txFetchSlot]
@[simp] theorem txFetchSlot_result (base : Addr) (mask comp : Word) :
    (txFetchSlot s base mask comp).result = s.result := by simp [txFetchSlot]

@[simp] theorem getReg_txFetchSlot_txdone (base : Addr) (mask comp : Word) :
    getReg (txFetchSlot s base mask comp) .txdmaTxdone = advance mask comp := by
  simp [txFetchSlot]

/-- What every turn keeps, the loop keeps. -/
theorem txLoop_invariant (P : State → Prop) (base : Addr) (mask kick : Word) (n : Nat) (comp : Word)
    (hP : ∀ c t, P t → P (txFetchSlot t base mask c)) (s : State) (hs : P s) :
    P (txLoop base mask kick n comp s) := by
  induction n generalizing s comp with
  | zero => exact hs
  | succ n ih =>
    rw [txLoop]
    split
    · exact hs
    · exact ih _ _ (hP _ _ hs)

@[simp] theorem txLoop_cfg (base : Addr) (mask kick : Word) (n : Nat) (comp : Word) :
    (txLoop base mask kick n comp s).cfg = s.cfg :=
  txLoop_invariant (fun t => t.cfg = s.cfg) base mask kick n comp (by intro c t h; simpa using h)
    s rfl
@[simp] theorem txLoop_words (base : Addr) (mask kick : Word) (n : Nat) (comp : Word) :
    (txLoop base mask kick n comp s).words = s.words :=
  txLoop_invariant (fun t => t.words = s.words) base mask kick n comp (by intro c t h; simpa using h)
    s rfl
@[simp] theorem txLoop_linkUp (base : Addr) (mask kick : Word) (n : Nat) (comp : Word) :
    (txLoop base mask kick n comp s).linkUp = s.linkUp :=
  txLoop_invariant (fun t => t.linkUp = s.linkUp) base mask kick n comp (by intro c t h; simpa using h)
    s rfl
@[simp] theorem txLoop_mem (base : Addr) (mask kick : Word) (n : Nat) (comp : Word) :
    (txLoop base mask kick n comp s).mem = s.mem :=
  txLoop_invariant (fun t => t.mem = s.mem) base mask kick n comp (by intro c t h; simpa using h)
    s rfl
@[simp] theorem txLoop_requests (base : Addr) (mask kick : Word) (n : Nat) (comp : Word) :
    (txLoop base mask kick n comp s).requests = s.requests :=
  txLoop_invariant (fun t => t.requests = s.requests) base mask kick n comp (by intro c t h; simpa using h)
    s rfl
@[simp] theorem txLoop_result (base : Addr) (mask kick : Word) (n : Nat) (comp : Word) :
    (txLoop base mask kick n comp s).result = s.result :=
  txLoop_invariant (fun t => t.result = s.result) base mask kick n comp (by intro c t h; simpa using h)
    s rfl

@[simp] theorem getWord_txLoop (base : Addr) (mask kick : Word) (n : Nat) (comp : Word) (k : Nat) :
    getWord (txLoop base mask kick n comp s) k = getWord s k :=
  txLoop_invariant (fun t => getWord t k = getWord s k) base mask kick n comp
    (by intro c t h; simpa using h) s rfl

/-- The loop writes GREG_STAT and TXDMA_TXDONE and no other register. -/
@[simp] theorem getReg_txLoop (base : Addr) (mask kick : Word) (n : Nat) (comp : Word) (r : Reg)
    (h0 : r ≠ .gregStat) (h1 : r ≠ .txdmaTxdone) :
    getReg (txLoop base mask kick n comp s) r = getReg s r :=
  txLoop_invariant (fun t => getReg t r = getReg s r) base mask kick n comp
    (by intro c t h; simpa [h0, h1] using h) s rfl

/-! ### `Kick` -/

@[simp] theorem getWord_kick (k : Nat) :
    getWord (kick s) k = getWord s k := by
  simp only [kick]; split <;> simp

@[simp] theorem getReg_kick (r : Reg)
    (h0 : r ≠ .gregStat) (h1 : r ≠ .txdmaTxdone) :
    getReg (kick s) r = getReg s r := by
  simp only [kick]; split <;> simp [h0, h1]

@[simp] theorem kick_cfg : (kick s).cfg = s.cfg := by simp only [kick]; split <;> simp
@[simp] theorem kick_words : (kick s).words = s.words := by simp only [kick]; split <;> simp
@[simp] theorem kick_linkUp : (kick s).linkUp = s.linkUp := by simp only [kick]; split <;> simp
@[simp] theorem kick_mem : (kick s).mem = s.mem := by simp only [kick]; split <;> simp
@[simp] theorem kick_requests :
    (kick s).requests = s.requests := by simp only [kick]; split <;> simp
@[simp] theorem kick_result : (kick s).result = s.result := by simp only [kick]; split <;> simp

end Sys2Proof.Laws
end

