-- ==== Sys2Proof/Tests/Slice0.lean ====
section
/-! SUPPORT. Tests: the well-formedness checks refuse what they should, every constructor's decoding from
bytes written out from the encoding tables, the vectors of 95_test_vectors.md (named after their
numbers there), and a witness of the hypotheses of every statement that has any. -/
namespace Sys2Proof.Tests

set_option Elab.async false

open Sys2Proof Sys2Proof.Machine Sys2Proof.Claims

/-! ## Helpers -/

/-- A configuration with other access classes: TXDMA_PCNT written and cleared by the bus, MAC_TXCFG
read-only, MAC_TXSTAT not cleared by a read. -/
def otherAccess : State :=
  let cfg : Cfg := { defaultCfg with roSet := [.macTxcfg], clearOnRead := [.txdmaPcnt] }
  { State.reset with cfg := cfg }

/-- A configuration with another valid tag. -/
def otherTag : Cfg := { defaultCfg with mifStValid := 2#32 }

/-- Bytes written as numbers. -/
def bytes (l : List Nat) : List Byte := l.map fun n => BitVec.ofNat 8 n

/-- The bytes decode to the instruction under the configuration. -/
def decodesUnder (cfg : Cfg) (src : Source) (l : List Nat) (i : Instr) : Bool :=
  match decode cfg src (bytes l) with
  | .ok j => j == i
  | .error _ => false

/-- The bytes decode to the instruction under the default configuration. -/
def decodes (src : Source) (l : List Nat) (i : Instr) : Bool := decodesUnder defaultCfg src l i

/-- The bytes are rejected under the default configuration. -/
def rejected (src : Source) (l : List Nat) : Option DecodeError :=
  match decode defaultCfg src (bytes l) with
  | .ok _ => none
  | .error e => some e

/-- The data word of the write tests, DEADBEEF, stored least significant byte first. -/
def datum : Word := 0xDEADBEEF#32

/-- Reads at the offsets given by their low and second byte. -/
def readsAt (l : List (Nat × Nat × Instr)) : Bool :=
  l.all fun p => decodes (.port (.busRead 4)) [p.1, p.2.1, 0, 0] p.2.2

/-- Writes of `datum` at the offsets given by their low and second byte. -/
def writesAt (l : List (Nat × Nat × Instr)) : Bool :=
  l.all fun p => decodes (.port (.busWrite 4)) [p.1, p.2.1, 0, 0, 0xEF, 0xBE, 0xAD, 0xDE] p.2.2

/-- The state after an instruction. -/
def after (i : Instr) (s : State) : State :=
  match exec i s with
  | .next t => t
  | .fault _ => s
  | .refused _ => s

/-- The state after a step. -/
def stepped (s : State) : State :=
  match step s with
  | .next t => t
  | .fault _ => s
  | .refused _ => s

/-- The state after reset with registers placed. -/
def placed (l : List (Reg × Word)) : State := l.foldl (fun s p => setReg s p.1 p.2) State.reset

/-- The same with the line high. -/
def placedHigh (l : List (Reg × Word)) : State := setIrq (placed l) true

/-- A state with the transceiver at bus address 1 and the link up (section 5 of the vectors). -/
def phyState : State :=
  let cfg : Cfg := { defaultCfg with phyAddr := 1#5 }
  { State.reset with cfg := cfg, linkUp := true }

/-- MIF_FRAME after a word is written to it in `phyState`. -/
def frameAfter (v : Word) : Word := getReg (after (.wrMifFrame v) phyState) .mifFrame

/-- Bytes `first`, `first + 1`, ... -/
def counting (first n : Nat) : List Byte := (List.range n).map fun k => BitVec.ofNat 8 (first + k)

/-- The transmit set-up of section 6, the payload bytes and the descriptors of slots 0 and 1 in memory. -/
def txState (ctl0 buf0 ctl1 buf1 : Nat) : State :=
  let s := placed [(.txdmaDblow, 0x10000#32), (.txdmaCfg, 1#32), (.macTxcfg, 1#32)]
  let m := writeBytes s.mem 0x40000#64 (counting 0x10 20)
  let m1 := writeBytes m 0x10000#64 (toLE 8 (BitVec.ofNat 64 ctl0) ++ toLE 8 (BitVec.ofNat 64 buf0))
  setMem s (writeBytes m1 0x10010#64
    (toLE 8 (BitVec.ofNat 64 ctl1) ++ toLE 8 (BitVec.ofNat 64 buf1)))

/-- The frames sent. -/
def sent (s : State) : List (List Byte) := s.trace.filterMap frameOf

/-- The receive set-up of section 7, with further registers placed and slot 0 posted with `buf`. -/
def rxState (buf : Nat) (l : List (Reg × Word)) : State :=
  let s := placed ([(.rxdmaDblow, 0x10000#32), (.rxdmaCfg, 1#32), (.macMaxfsz, 0x5EE#32),
    (.macRxcfg, 1#32), (.rxdmaKick, 4#32)] ++ l)
  setMem s (writeBytes s.mem 0x10000#64 (toLE 8 0#64 ++ toLE 8 (BitVec.ofNat 64 buf)))

/-- The 60-byte test frame `F(dst)`. -/
def testFrame (dst : List Nat) : List Byte :=
  bytes (dst ++ [0x00, 0x11, 0x22, 0x33, 0x44, 0x55, 0x08, 0x00]) ++ counting 0x40 46

/-- The status word in slot 0 after a frame is delivered. -/
def statusAfter (s : State) (f : List Byte) : DWord :=
  fromLE 64 (readBytes (after (.deliver f) s).mem 0x10000#64 8)

/-! ## Well-formedness smoke -/

theorem test_wf_default : defaultCfg.wellFormed = true := by decide +kernel

theorem test_wf_bank_base_unaligned :
    Cfg.banksPlaced { defaultCfg with banks := [⟨.greg, 0x0002, 1⟩] } = false := by decide +kernel

theorem test_wf_bank_beyond_space :
    Cfg.banksPlaced { defaultCfg with spaceBytes := 0x1000 } = false := by decide +kernel

theorem test_wf_banks_overlap :
    banksDisjoint [⟨.greg, 0, 8⟩, ⟨.txdma, 0x1C, 1⟩] = false := by decide +kernel

theorem test_wf_register_elsewhere :
    Cfg.registersPlaced { defaultCfg with offsets := defaultCfg.offsets.set 0 0x2000 } = false := by
  decide +kernel

theorem test_wf_masks_overlap :
    Cfg.masksDisjoint { defaultCfg with statTxAll := 1#32 } = false := by decide +kernel

/-- The two bits of MIF_CFG (R55), and the acknowledgement inside the data field (R112). -/
theorem test_wf_mif_masks_overlap :
    Cfg.masksDisjoint { defaultCfg with mifCfgSet := 0x300#32 } = false ∧
    Cfg.masksDisjoint { defaultCfg with mifAck := 0x8000#32 } = false := by decide +kernel

theorem test_wf_mask_with_a_hole :
    Cfg.masksContiguous { defaultCfg with rxcfgFboff := 0x1400#32 } = false := by decide +kernel

theorem test_wf_accumulator_too_small :
    Cfg.sizesFit { defaultCfg with txAccMax := 59 } = false := by decide +kernel

theorem test_wf_cfg_refused :
    Cfg.wellFormed { defaultCfg with rxMinLen := 5 } = false := by decide +kernel

/-- Each row whose operand the table restricts refuses an operand of another row. -/
theorem test_wf_instructions_refused : [
    Instr.rdPlainWord 0x000C#32, .wrPlainWord 0x3000#32 0#32, .rdWolWord 0x2FFC#32,
    .wrWolWord 0x3014#32 0#32, .rdUnmapped 0x3010#32, .wrUnmapped 0x3002#32 0#32, .swrstAll 1#32,
    .swrstRx 1#32, .swrstTx 3#32, .swrstNone 2#32, .mifWrite 0x60000000#32, .mifRead 0x50000000#32,
    .mifBadOp0 0x70000000#32, .mifBadOp3 0x40000000#32, .mifBadTag0 0x80000000#32,
    .mifBadTag2 0xC0000000#32, .mifBadTag3 0x00000000#32, .phyreg0Control 0x60040000#32,
    .phyreg1Status 0x60000000#32, .phyreg2IdentifierHigh 0x50080000#32,
    .phyreg3IdentifierLow 0x60080000#32, .phyreg4Advertisement 0x60140000#32,
    .phyreg5LinkPartner 0x60100000#32, .phyreg24Auxiliary 0x60640000#32,
    .phyregOther 0x60000000#32, .rxdStatus 0x80000000#64 0#64,
    .setStatus 0x00080000#32 true].all (fun i => !i.wellFormed defaultCfg) = true := by
  decide +kernel

/-! ## Decoding, from bytes written out by hand -/

theorem test_decode_reads_greg : readsAt [
  (0x00, 0x00, .rdGregSebstate), (0x0C, 0x00, .rdGregStat), (0x10, 0x00, .rdGregImask),
  (0x14, 0x00, .rdGregIack), (0x1C, 0x00, .rdGregStat2), (0x00, 0x10, .rdGregPciestat),
  (0x04, 0x10, .rdGregPciemask), (0x10, 0x10, .rdGregSwrst)] = true := by decide +kernel

theorem test_decode_writes_greg : writesAt [
  (0x00, 0x00, .wrGregSebstate datum), (0x0C, 0x00, .wrGregStat datum),
  (0x10, 0x00, .wrGregImask datum), (0x14, 0x00, .wrGregIack datum),
  (0x1C, 0x00, .wrGregStat2 datum), (0x00, 0x10, .wrGregPciestat datum),
  (0x04, 0x10, .wrGregPciemask datum), (0x10, 0x10, .wrGregSwrst datum)] = true := by decide +kernel

theorem test_decode_reads_txdma : readsAt [
  (0x00, 0x20, .rdTxdmaKick), (0x04, 0x20, .rdTxdmaCfg), (0x08, 0x20, .rdTxdmaDblow),
  (0x0C, 0x20, .rdTxdmaDbhi), (0x24, 0x20, .rdTxdmaPcnt), (0x28, 0x20, .rdTxdmaSmachine),
  (0x30, 0x20, .rdTxdmaDplow), (0x34, 0x20, .rdTxdmaDphi), (0x00, 0x21, .rdTxdmaTxdone),
  (0x08, 0x21, .rdTxdmaFtag), (0x18, 0x21, .rdTxdmaFsz)] = true := by decide +kernel

theorem test_decode_writes_txdma : writesAt [
  (0x00, 0x20, .wrTxdmaKick datum), (0x04, 0x20, .wrTxdmaCfg datum),
  (0x08, 0x20, .wrTxdmaDblow datum), (0x0C, 0x20, .wrTxdmaDbhi datum),
  (0x24, 0x20, .wrTxdmaPcnt datum), (0x28, 0x20, .wrTxdmaSmachine datum),
  (0x30, 0x20, .wrTxdmaDplow datum), (0x34, 0x20, .wrTxdmaDphi datum),
  (0x00, 0x21, .wrTxdmaTxdone datum), (0x08, 0x21, .wrTxdmaFtag datum),
  (0x18, 0x21, .wrTxdmaFsz datum)] = true := by decide +kernel

theorem test_decode_reads_rxdma : readsAt [
  (0x00, 0x40, .rdRxdmaCfg), (0x04, 0x40, .rdRxdmaDblow), (0x08, 0x40, .rdRxdmaDbhi),
  (0x18, 0x40, .rdRxdmaPcnt), (0x1C, 0x40, .rdRxdmaSmachine), (0x24, 0x40, .rdRxdmaDplow),
  (0x28, 0x40, .rdRxdmaDphi), (0x00, 0x41, .rdRxdmaKick), (0x04, 0x41, .rdRxdmaDone),
  (0x10, 0x41, .rdRxdmaFtag), (0x20, 0x41, .rdRxdmaFsz)] = true := by decide +kernel

theorem test_decode_writes_rxdma : writesAt [
  (0x00, 0x40, .wrRxdmaCfg datum), (0x04, 0x40, .wrRxdmaDblow datum),
  (0x08, 0x40, .wrRxdmaDbhi datum), (0x18, 0x40, .wrRxdmaPcnt datum),
  (0x1C, 0x40, .wrRxdmaSmachine datum), (0x24, 0x40, .wrRxdmaDplow datum),
  (0x28, 0x40, .wrRxdmaDphi datum), (0x00, 0x41, .wrRxdmaKick datum),
  (0x04, 0x41, .wrRxdmaDone datum), (0x10, 0x41, .wrRxdmaFtag datum),
  (0x20, 0x41, .wrRxdmaFsz datum)] = true := by decide +kernel

theorem test_decode_reads_mac_low : readsAt [
  (0x00, 0x60, .rdMacTxrst), (0x04, 0x60, .rdMacRxrst), (0x10, 0x60, .rdMacTxstat),
  (0x14, 0x60, .rdMacRxstat), (0x18, 0x60, .rdMacCstat), (0x20, 0x60, .rdMacTxmask),
  (0x24, 0x60, .rdMacRxmask), (0x28, 0x60, .rdMacMcmask), (0x30, 0x60, .rdMacTxcfg),
  (0x34, 0x60, .rdMacRxcfg), (0x3C, 0x60, .rdMacXifcfg), (0x50, 0x60, .rdMacMinfsz),
  (0x54, 0x60, .rdMacMaxfsz), (0x80, 0x60, .rdMacAddr0), (0x84, 0x60, .rdMacAddr1),
  (0x88, 0x60, .rdMacAddr2), (0x8C, 0x60, .rdMacAddr3), (0x90, 0x60, .rdMacAddr4),
  (0x94, 0x60, .rdMacAddr5), (0xC0, 0x60, .rdMacHash0)] = true := by decide +kernel

theorem test_decode_writes_mac_low : writesAt [
  (0x00, 0x60, .wrMacTxrst datum), (0x04, 0x60, .wrMacRxrst datum),
  (0x10, 0x60, .wrMacTxstat datum), (0x14, 0x60, .wrMacRxstat datum),
  (0x18, 0x60, .wrMacCstat datum), (0x20, 0x60, .wrMacTxmask datum),
  (0x24, 0x60, .wrMacRxmask datum), (0x28, 0x60, .wrMacMcmask datum),
  (0x30, 0x60, .wrMacTxcfg datum), (0x34, 0x60, .wrMacRxcfg datum),
  (0x3C, 0x60, .wrMacXifcfg datum), (0x50, 0x60, .wrMacMinfsz datum),
  (0x54, 0x60, .wrMacMaxfsz datum), (0x80, 0x60, .wrMacAddr0 datum),
  (0x84, 0x60, .wrMacAddr1 datum), (0x88, 0x60, .wrMacAddr2 datum),
  (0x8C, 0x60, .wrMacAddr3 datum), (0x90, 0x60, .wrMacAddr4 datum),
  (0x94, 0x60, .wrMacAddr5 datum), (0xC0, 0x60, .wrMacHash0 datum)] = true := by decide +kernel

theorem test_decode_reads_mac_high : readsAt [
  (0xC4, 0x60, .rdMacHash1), (0xC8, 0x60, .rdMacHash2), (0xCC, 0x60, .rdMacHash3),
  (0xD0, 0x60, .rdMacHash4), (0xD4, 0x60, .rdMacHash5), (0xD8, 0x60, .rdMacHash6),
  (0xDC, 0x60, .rdMacHash7), (0xE0, 0x60, .rdMacHash8), (0xE4, 0x60, .rdMacHash9),
  (0xE8, 0x60, .rdMacHash10), (0xEC, 0x60, .rdMacHash11), (0xF0, 0x60, .rdMacHash12),
  (0xF4, 0x60, .rdMacHash13), (0xF8, 0x60, .rdMacHash14), (0xFC, 0x60, .rdMacHash15),
  (0x14, 0x61, .rdMacPatmps), (0x34, 0x61, .rdMacSmachine)] = true := by decide +kernel

theorem test_decode_writes_mac_high : writesAt [
  (0xC4, 0x60, .wrMacHash1 datum), (0xC8, 0x60, .wrMacHash2 datum),
  (0xCC, 0x60, .wrMacHash3 datum), (0xD0, 0x60, .wrMacHash4 datum),
  (0xD4, 0x60, .wrMacHash5 datum), (0xD8, 0x60, .wrMacHash6 datum),
  (0xDC, 0x60, .wrMacHash7 datum), (0xE0, 0x60, .wrMacHash8 datum),
  (0xE4, 0x60, .wrMacHash9 datum), (0xE8, 0x60, .wrMacHash10 datum),
  (0xEC, 0x60, .wrMacHash11 datum), (0xF0, 0x60, .wrMacHash12 datum),
  (0xF4, 0x60, .wrMacHash13 datum), (0xF8, 0x60, .wrMacHash14 datum),
  (0xFC, 0x60, .wrMacHash15 datum), (0x14, 0x61, .wrMacPatmps datum),
  (0x34, 0x61, .wrMacSmachine datum)] = true := by decide +kernel

theorem test_decode_reads_mif : readsAt [
  (0x0C, 0x62, .rdMifFrame), (0x10, 0x62, .rdMifCfg), (0x18, 0x62, .rdMifStatus),
  (0x1C, 0x62, .rdMifSmachine)] = true := by decide +kernel

theorem test_decode_writes_mif : writesAt [
  (0x0C, 0x62, .wrMifFrame datum), (0x10, 0x62, .wrMifCfg datum),
  (0x18, 0x62, .wrMifStatus datum), (0x1C, 0x62, .wrMifSmachine datum)] = true := by decide +kernel

theorem test_decode_reads_pcs0 : readsAt [
  (0x04, 0x90, .rdPcsMiistat), (0x18, 0x90, .rdPcsIstat)] = true := by decide +kernel

theorem test_decode_writes_pcs0 : writesAt [
  (0x04, 0x90, .wrPcsMiistat datum), (0x18, 0x90, .wrPcsIstat datum)] = true := by decide +kernel

theorem test_decode_reads_pcs1 : readsAt [
  (0x5C, 0x90, .rdPcsSstate)] = true := by decide +kernel

theorem test_decode_writes_pcs1 : writesAt [
  (0x5C, 0x90, .wrPcsSstate datum)] = true := by decide +kernel

theorem test_decode_places :
    decodes (.port (.busRead 4)) [0x20, 0x40, 0, 0] (.rdPlainWord 0x4020#32) = true ∧
    decodes (.port (.busWrite 4)) [0x14, 0x62, 0, 0, 1, 0, 0, 0] (.wrPlainWord 0x6214#32 1#32) =
      true ∧
    decodes (.port (.busRead 4)) [0x10, 0x30, 0, 0] (.rdWolWord 0x3010#32) = true ∧
    decodes (.port (.busWrite 4)) [0x04, 0x30, 0, 0, 0x0D, 0xF0, 0xFE, 0xCA]
      (.wrWolWord 0x3004#32 0xCAFEF00D#32) = true ∧
    decodes (.port (.busRead 4)) [0x14, 0x30, 0, 0] (.rdUnmapped 0x3014#32) = true ∧
    decodes (.port (.busRead 4)) [0xFC, 0xFF, 0x1F, 0] (.rdUnmapped 0x1FFFFC#32) = true ∧
    decodes (.port (.busWrite 4)) [0x00, 0x80, 0, 0, 0x78, 0x56, 0x34, 0x12]
      (.wrUnmapped 0x8000#32 0x12345678#32) = true := by decide +kernel

theorem test_decode_data_words :
    decodes (.port .swrst) [0x07, 0, 0, 0] (.swrstAll 7#32) = true ∧
    decodes (.port .swrst) [0x02, 0, 0, 0] (.swrstRx 2#32) = true ∧
    decodes (.port .swrst) [0x05, 0, 0, 0] (.swrstTx 5#32) = true ∧
    decodes (.port .swrst) [0x04, 0, 0, 0] (.swrstNone 4#32) = true ∧
    decodes (.port .mif) [0x00, 0x80, 0x02, 0x50] (.mifWrite 0x50028000#32) = true ∧
    decodes (.port .mif) [0x00, 0x00, 0x0A, 0x60] (.mifRead 0x600A0000#32) = true ∧
    decodes (.port .mif) [0x00, 0x00, 0x00, 0x40] (.mifBadOp0 0x40000000#32) = true ∧
    decodes (.port .mif) [0x00, 0x00, 0x00, 0x70] (.mifBadOp3 0x70000000#32) = true ∧
    decodes (.port .mif) [0x00, 0x00, 0x00, 0x20] (.mifBadTag0 0x20000000#32) = true ∧
    decodes (.port .mif) [0x00, 0x00, 0x00, 0x90] (.mifBadTag2 0x90000000#32) = true ∧
    decodes (.port .mif) [0xFF, 0xFF, 0xFF, 0xFF] (.mifBadTag3 0xFFFFFFFF#32) = true := by
  decide +kernel

theorem test_decode_transceiver_registers :
    decodes (.port .phySelect) [0, 0, 0x02, 0x60] (.phyreg0Control 0x60020000#32) = true ∧
    decodes (.port .phySelect) [0, 0, 0x06, 0x60] (.phyreg1Status 0x60060000#32) = true ∧
    decodes (.port .phySelect) [0, 0, 0x0A, 0x60] (.phyreg2IdentifierHigh 0x600A0000#32) = true ∧
    decodes (.port .phySelect) [0, 0, 0x0E, 0x60] (.phyreg3IdentifierLow 0x600E0000#32) = true ∧
    decodes (.port .phySelect) [0, 0, 0x12, 0x60] (.phyreg4Advertisement 0x60120000#32) = true ∧
    decodes (.port .phySelect) [0, 0, 0x16, 0x60] (.phyreg5LinkPartner 0x60160000#32) = true ∧
    decodes (.port .phySelect) [0, 0, 0x62, 0x60] (.phyreg24Auxiliary 0x60620000#32) = true ∧
    decodes (.port .phySelect) [0, 0, 0x1E, 0x60] (.phyregOther 0x601E0000#32) = true := by
  decide +kernel

/-- The descriptors of program P1 (transmit) and program P2 (receive, as posted and as written back). -/
theorem test_decode_descriptors :
    decodes .txDescriptor [0x0E, 0, 0x07, 0xA2, 0, 0, 0, 0, 0, 0, 0x03, 0, 0, 0, 0, 0]
      (.txd 0xA207000E#64 0x30000#64) = true ∧
    decodes .rxPosted [0, 0, 0, 0, 0, 0, 0, 0, 0, 0x08, 0x02, 0, 0, 0, 0, 0]
      (.rxdPosted 0#64 0x20800#64) = true ∧
    decodes .rxStatus [0xF3, 0x60, 0x40, 0, 0, 0x80, 0x46, 0x0E, 0, 0, 0x02, 0, 0, 0, 0, 0]
      (.rxdStatus 0x0E468000004060F3#64 0x20000#64) = true := by decide +kernel

theorem test_decode_ports :
    decodes (.port .canAccept) [] .canAccept = true ∧
    decodes (.port .deliver) [1, 2, 3] (.deliver [1#8, 2#8, 3#8]) = true ∧
    decodes (.port .busReset) [] .busReset = true ∧
    decodes (.port .setLink) [1] (.setLink true) = true := by decide +kernel

/-- The internal procedures have no encoding (R22). -/
theorem test_encode_internal : [Instr.kick, .evaluate, .cascade, .ack 0#32, .setStatus 0#32 true,
    .miiOp 0#32, .classify ⟨0#8, 0#8, 0#8, 0#8, 0#8, 0#8⟩ 0#32, .resetRx, .resetTx,
    .resetAll true].all (fun i => (encode defaultCfg i).isNone) = true := by decide +kernel

/-- V-REG-16 and the other rejections. -/
theorem test_decode_rejects :
    rejected (.port (.busRead 2)) [0x30, 0x60, 0, 0] = some (.busRefused 0x6030 2) ∧
    rejected (.port (.busRead 4)) [0x32, 0x60, 0, 0] = some (.busRefused 0x6032 4) ∧
    rejected (.port (.busRead 4)) [0, 0, 0x20, 0] = some (.busRefused 0x200000 4) ∧
    rejected (.port (.busRead 4)) [0, 0] = some .malformed := by decide +kernel

/-- A word without a row of its own is the write of MIF_FRAME (R177): a write frame given as a register
selection, an invalid tag that the table has no row for. -/
theorem test_decode_frames_without_a_row :
    decodes (.port .phySelect) [0, 0, 0, 0x50] (.wrMifFrame 0x50000000#32) = true ∧
    decodesUnder otherTag (.port .mif) [0, 0, 0, 0x50] (.wrMifFrame 0x50000000#32) = true ∧
    decodesUnder otherTag (.port .mif) [0, 0, 0, 0x90] (.mifWrite 0x90000000#32) = true := by
  decide +kernel

/-- The access classes are parameters (R9, decisions D7, D9). -/
theorem test_access_classes :
    getReg (after (.wrTxdmaPcnt 5#32) otherAccess) .txdmaPcnt = 5#32 ∧
    after (.wrMacTxcfg 1#32) otherAccess = otherAccess ∧
    getReg (after .rdTxdmaPcnt (setReg otherAccess .txdmaPcnt 5#32)) .txdmaPcnt = 0#32 ∧
    (after .rdTxdmaPcnt (setReg otherAccess .txdmaPcnt 5#32)).result = .word 5#32 ∧
    getReg (after .rdMacTxstat (setReg otherAccess .macTxstat 5#32)) .macTxstat = 5#32 := by
  decide +kernel

/-- Words of the opcode table (log entry 2), and what the very next step then runs. -/
theorem test_table_words :
    decodeTableWord 24 0x00000C = some .rdGregStat ∧
    decodeTableWord 32 0x600C0000 = some (.phyreg3IdentifierLow 0x600C0000#32) ∧
    decodeTableWord 32 0x50000000 = some (.mifWrite 0x50000000#32) ∧
    decodeTableWord 64 0x40000000 = some (.txd 0x40000000#64 0#64) := by decide +kernel

theorem test_fetch_word :
    (stepped (State.reset.withFetchWord 24 0x002118)).result = .word 0x90#32 ∧
    (stepped (State.reset.withFetchWord 64 0xC0000000)).trace.contains (.send []) = true := by
  decide +kernel

/-! ## Functions (V-FN-1 to V-FN-3) -/

theorem test_fn1_checksum : csum16 [] = 0xFFFF#16 ∧ csum16 (bytes [0xFF, 0xFF]) = 0#16 ∧
    csum16 (bytes [0xFF]) = 0x00FF#16 ∧ csum16 (bytes [1, 2, 3]) = 0xFBFD#16 ∧
    csum16 (bytes [0x00, 0x01, 0xF2, 0x03, 0xF4, 0xF5, 0xF6, 0xF7]) = 0x220D#16 := by
  decide +kernel

theorem test_fn2_address_check :
    crc32le (bytes [0x01, 0x00, 0x5E, 0x00, 0x00, 0x01]) = 0xD9B4C5FE#32 ∧
    crc32le (bytes [0x52, 0x54, 0x00, 0x12, 0x34, 0x56]) = 0xE468EE83#32 ∧
    hashReg (hashKey 0xD9B4C5FE#32 / 16) = .macHash13 := by decide +kernel

theorem test_fn3_ring : ringMask defaultCfg 0x3#32 = 63#32 ∧ ringMask defaultCfg 0xF#32 = 4095#32 ∧
    ringMask defaultCfg 0x118010#32 = 31#32 ∧ advance 31#32 31#32 = 0#32 ∧
    ringFull 31#32 33#32 0#32 = true ∧ ringFull 31#32 0#32 31#32 = true ∧
    ringFull 31#32 4#32 4#32 = false ∧ slotAddr 0xFFFFFFFFFFFFFFF0#64 1#32 = 0#64 := by
  decide +kernel

/-! ## Register access (section 3) -/

theorem test_reg1_plain_storage :
    (after .rdMacTxcfg (after (.wrMacTxcfg datum) State.reset)).result = .word datum := by
  decide +kernel

theorem test_reg3_last_wol_word :
    (after (.rdWolWord 0x3010#32) (after (.wrWolWord 0x3010#32 1#32) State.reset)).result =
      .word 1#32 := by decide +kernel

theorem test_reg4_cursor_is_read_only : after (.wrTxdmaTxdone 5#32) State.reset = State.reset := by
  decide +kernel

theorem test_reg6_reset_values : getReg State.reset .txdmaFsz = 0x90#32 ∧
    getReg State.reset .rxdmaFsz = 0x140#32 ∧ getReg State.reset .txdmaCfg = 0x118010#32 ∧
    getReg State.reset .rxdmaCfg = 0x1000010#32 := by decide +kernel

theorem test_reg7_strap :
    getReg (after (.wrMifCfg 0xFFFFFFFF#32) State.reset) .mifCfg = 0xFFFFFDFF#32 ∧
    getReg (after (.wrMifCfg 0#32) State.reset) .mifCfg = 0x100#32 := by decide +kernel

theorem test_reg8_masked :
    getReg (after (.wrGregPciemask 0xFFFFFFFF#32) State.reset) .gregPciemask = 7#32 ∧
    getReg (after (.wrMacMinfsz 0xFFFF#32) State.reset) .macMinfsz = 0x3FF#32 := by decide +kernel

theorem test_reg10_unmapped :
    (after (.rdUnmapped 0x8000#32) State.reset).result = .word 0xFFFFFFFF#32 ∧
    (after (.wrUnmapped 0x8000#32 0x12345678#32) State.reset).trace =
      [.log (.decodeFailureWrite 0x8000#32 0x12345678#32)] := by decide +kernel

theorem test_reg11_station_address : getReg State.reset .macAddr0 = 0x3456#32 ∧
    getReg State.reset .macAddr1 = 0x0012#32 ∧ getReg State.reset .macAddr2 = 0x5254#32 ∧
    getReg State.reset .macAddr3 = 0#32 := by decide +kernel

theorem test_reg13_software_reset :
    getReg (after (.wrGregSwrst 7#32) State.reset) .gregSwrst = 4#32 ∧
    getReg (after (.wrGregSwrst 1#32) State.reset) .gregSwrst = 1#32 ∧
    getReg (after (.wrGregSwrst 4#32) State.reset) .gregSwrst = 4#32 := by decide +kernel

theorem test_reg14_kick_while_disabled :
    getReg (after (.wrTxdmaKick 0x45#32) (placed [(.txdmaCfg, 3#32)])) .txdmaKick = 0x45#32 ∧
    (after (.wrTxdmaKick 0x45#32) (placed [(.txdmaCfg, 3#32)])).trace = [.log .txDisabled] := by
  decide +kernel

/-! ## Interrupt aggregator (section 4) -/

theorem test_int1_mask : (after (.wrGregImask 4#32) (placedHigh [(.gregStat, 4#32)])).irq = false ∧
    (after (.wrGregImask 0#32) (placed [(.gregStat, 4#32), (.gregImask, 4#32)])).trace =
      [.irq true] := by decide +kernel

theorem test_int2_status_read :
    let s := placedHigh [(.gregStat, 0x4016#32), (.txdmaTxdone, 2#32)]
    (after .rdGregStat2 s).result = .word 0x104016#32 ∧
    (after .rdGregStat s).result = .word 0x104016#32 ∧
    getReg (after .rdGregStat s) .gregStat = 0x4000#32 ∧ (after .rdGregStat s).irq = true := by
  decide +kernel

theorem test_int3_acknowledge :
    getReg (after (.wrGregIack 0x4004#32) (placedHigh [(.gregStat, 0x4016#32)])) .gregStat =
      0x4012#32 ∧
    (after (.ack 0xFFFFFFFF#32) (placedHigh [(.gregStat, 0x16#32)])).irq = false := by
  decide +kernel

theorem test_int6_cascade :
    getReg (after (.wrMacTxmask 0#32) (placed [(.macTxstat, 1#32)])) .gregStat = 0x4000#32 ∧
    (after .cascade (placed [(.macTxstat, 1#32)])).irq = true := by decide +kernel

theorem test_int7_unrelated_bits :
    getReg (after (.wrMacTxmask 1#32) (placedHigh [(.macTxstat, 1#32), (.gregStat, 0x4010#32)]))
      .gregStat = 0x10#32 := by decide +kernel

theorem test_int8_clear_on_read :
    let s := placedHigh [(.macTxstat, 1#32), (.gregStat, 0x4000#32)]
    (after .rdMacTxstat s).result = .word 1#32 ∧ getReg (after .rdMacTxstat s) .macTxstat = 0#32 ∧
    getReg (after .rdMacTxstat s) .gregStat = 0#32 ∧ (after .rdMacTxstat s).irq = false := by
  decide +kernel

theorem test_int9_control_pair :
    let s := after (.wrMacMcmask 0#32) (placed [(.macCstat, 0x00120003#32)])
    getReg s .gregStat = 0x10000#32 ∧ getReg (after .rdMacCstat s) .macCstat = 0x00120000#32 ∧
    getReg (after .rdMacCstat s) .gregStat = 0#32 := by decide +kernel

theorem test_int10_excluded_field :
    getReg (after (.wrMacMcmask 0#32) (placed [(.macCstat, 0x00120000#32)])) .gregStat = 0#32 := by
  decide +kernel

theorem test_int11_receive_pair :
    getReg (after (.wrMacRxmask 4#32) (placed [(.macRxstat, 5#32)])) .gregStat = 0x8000#32 ∧
    getReg (after (.wrMacRxmask 5#32) (placed [(.macRxstat, 5#32)])) .gregStat = 0#32 := by
  decide +kernel

theorem test_int12_counter_is_no_source :
    (after .evaluate (placed [(.gregStat, 0xFFF80000#32)])).irq = false ∧
    (after (.setStatus 0x10#32 true) State.reset).irq = true := by decide +kernel

/-! ## Management frames (section 5) -/

theorem test_mif_reads : frameAfter 0x608A0000#32 = 0x00010040#32 ∧
    frameAfter 0x608E0000#32 = 0x00016210#32 ∧ frameAfter 0x60860000#32 = 0x0001402C#32 ∧
    frameAfter 0x60920000#32 = 0x00010100#32 ∧ frameAfter 0x609E0000#32 = 0x00010000#32 ∧
    frameAfter 0x600A0000#32 = 0x0001FFFF#32 ∧ frameAfter 0x608AABCD#32 = 0x00010040#32 := by
  decide +kernel

theorem test_mif4_link_down :
    getReg (after (.wrMifFrame 0x60860000#32) (after (.setLink false) phyState)) .mifFrame =
      0x00014008#32 := by decide +kernel

theorem test_mif_others : frameAfter 0x50828000#32 = 0x50838000#32 ∧
    frameAfter 0x70000000#32 = 0xFFFFFFFF#32 ∧ frameAfter 0x40000000#32 = 0xFFFFFFFF#32 ∧
    frameAfter 0x20000000#32 = 0xFFFFFFFF#32 ∧ frameAfter 0xFFFFFFFF#32 = 0xFFFFFFFF#32 := by
  decide +kernel

/-- The rows of the data word mean what the write of the word means. -/
theorem test_mif_rows :
    after (.mifRead 0x608A0000#32) phyState = after (.wrMifFrame 0x608A0000#32) phyState ∧
    after (.mifWrite 0x50828000#32) phyState = after (.wrMifFrame 0x50828000#32) phyState ∧
    after (.mifBadOp3 0x70000000#32) phyState = after (.wrMifFrame 0x70000000#32) phyState ∧
    after (.mifBadTag0 0x20000000#32) phyState = after (.wrMifFrame 0x20000000#32) phyState ∧
    after (.phyreg1Status 0x60860000#32) phyState = after (.wrMifFrame 0x60860000#32) phyState ∧
    after (.phyregOther 0x609E0000#32) phyState = after (.wrMifFrame 0x609E0000#32) phyState ∧
    (after (.miiOp 0x50828000#32) phyState).result = .word 0x50838000#32 := by decide +kernel

/-! ## Transmit engine (section 6) -/

theorem test_tx2_empty_kick :
    let s := after (.wrTxdmaKick 0#32) (txState 0 0 0 0)
    getReg s .gregStat = 2#32 ∧ s.irq = true := by decide +kernel

theorem test_tx3_one_frame :
    let s := after (.wrTxdmaKick 1#32) (txState 0xC0000014 0x40000 0 0)
    sent s = [counting 0x10 20] ∧ getReg s .txdmaTxdone = 1#32 ∧ getReg s .gregStat = 6#32 ∧
    s.irq = true := by decide +kernel

theorem test_tx4_interrupt_request :
    getReg (after (.wrTxdmaKick 1#32) (txState 0x1C0000014 0x40000 0 0)) .gregStat = 7#32 := by
  decide +kernel

theorem test_tx5_frame_over_two_kicks :
    let s := after (.wrTxdmaKick 1#32) (txState 0x80000003 0x40000 0x40000002 0x40010)
    let t := after (.wrTxdmaKick 2#32) s
    sent s = [] ∧ s.txAcc.length = 3 ∧ sent t = [bytes [0x10, 0x11, 0x12, 0x20, 0x21]] ∧
    t.txAcc = [] := by decide +kernel

theorem test_tx6_unfinished_frame :
    let s := after (.wrTxdmaKick 2#32) (txState 0x80000003 0x40000 0xC0000002 0x40010)
    sent s = [bytes [0x20, 0x21]] ∧ s.trace.contains (.log (.txUnfinishedFrame 3)) = true := by
  decide +kernel

theorem test_tx7_checksum_last_position :
    sent (after (.wrTxdmaKick 1#32) (txState 0xE2490014 0x40000 0 0)) =
      [counting 0x10 18 ++ bytes [0xDD, 0xDC]] := by decide +kernel

theorem test_tx8_checksum_out_of_bounds :
    let s := after (.wrTxdmaKick 1#32) (txState 0xE5000014 0x40000 0 0)
    sent s = [counting 0x10 20] ∧
    s.trace.contains (.log (.txChecksumOutOfBounds 0 40 20)) = true := by decide +kernel

theorem test_tx9_start_out_of_bounds :
    (after .kick (setReg (txState 0xE0098014 0x40000 0 0) .txdmaKick 1#32)).trace.contains
      (.log (.txChecksumOutOfBounds 19 0 20)) = true := by decide +kernel

theorem test_tx10_checksum_at_zero :
    sent (after (.txd 0xE0000014#64 0x40000#64) (txState 0 0 0 0)) =
      [bytes [0x04, 0xFB] ++ counting 0x12 18] := by decide +kernel

/-- The clamp of V-TX-11 on an accumulator of 60 bytes. -/
theorem test_tx11_overflow :
    let s := { State.reset with cfg := { defaultCfg with txAccMax := 60 } }
    let t := after (.txd 0xC0007FFF#64 0x100000#64) s
    sent t = [List.replicate 60 0#8] ∧ t.trace.contains (.log (.txOverflow 32767 60)) = true := by
  decide +kernel

theorem test_tx13_empty_frame :
    sent (after (.wrTxdmaKick 1#32) (txState 0x40000000 0 0 0)) = [[]] := by decide +kernel

theorem test_tx15_loopback :
    (after (.wrTxdmaKick 1#32) (setReg (txState 0xC0000014 0x40000 0 0) .macXifcfg 2#32)).trace.contains
      (.loopback (counting 0x10 20)) = true := by decide +kernel

theorem test_tx16_ring_wrap :
    let s := setReg (txState 0x40000004 0x40010 0 0) .txdmaTxdone 31#32
    let s1 := setMem s (writeBytes s.mem 0x101F0#64 (toLE 8 0x80000004#64 ++ toLE 8 0x40000#64))
    let t := after (.wrTxdmaKick 1#32) s1
    sent t = [bytes [0x10, 0x11, 0x12, 0x13, 0x20, 0x21, 0x22, 0x23]] ∧
    getReg t .txdmaTxdone = 1#32 := by decide +kernel

/-! ## Receive engine (section 7) -/

theorem test_rx1_disabled :
    let s := rxState 0x20000 [(.macRxcfg, 0#32)]
    (after .canAccept s).result = .flag false ∧
    (after (.deliver (testFrame [0, 0, 0, 0, 0, 0])) s).result = .count 60 := by decide +kernel

theorem test_rx2_bad_size :
    (after (.deliver (bytes [1, 2, 3, 4, 5])) (rxState 0x20000 [])).trace = [.log (.rxBadSize 5)] ∧
    sizeRejected (rxState 0x20000 []) 6 = false ∧ sizeRejected (rxState 0x20000 []) 1514 = false ∧
    sizeRejected (rxState 0x20000 []) 1515 = true := by decide +kernel

theorem test_rx5_broadcast :
    statusAfter (rxState 0x20000 []) (testFrame [0xFF, 0xFF, 0xFF, 0xFF, 0xFF, 0xFF]) =
      0x0BE260000040CF8D#64 := by decide +kernel

theorem test_rx6_no_match :
    let f := testFrame [0x0A, 0x0B, 0x0C, 0x0D, 0x0E, 0x0F]
    (after (.deliver f) (rxState 0x20000 [])).trace = [.log .rxUnmatched] ∧
    statusAfter (rxState 0x20000 [(.macRxcfg, 9#32)]) f = 0x0D4440000040AB66#64 := by
  decide +kernel

theorem test_rx7_all_multicast :
    statusAfter (rxState 0x20000 [(.macRxcfg, 0x11#32)])
      (testFrame [0x33, 0x33, 0x00, 0x00, 0x00, 0x01]) = 0x05D5500000409C59#64 := by decide +kernel

theorem test_rx8_hash_lookup :
    let f := testFrame [0x01, 0x00, 0x5E, 0x00, 0x00, 0x01]
    statusAfter (rxState 0x20000 [(.macHash13, 0x40#32), (.macRxcfg, 0x21#32)]) f =
      0x1D9B40000040708C#64 ∧
    (after (.deliver f) (rxState 0x20000 [(.macHash13, 0x40#32)])).trace = [.log .rxUnmatched] := by
  decide +kernel

theorem test_rx9_alternate :
    statusAfter (rxState 0x20000 [(.macAddr3, 1#32), (.macAddr5, 0x200#32), (.macHash7, 0x800#32),
      (.macRxcfg, 0x21#32)]) (testFrame [0x02, 0x00, 0x00, 0x00, 0x00, 0x01]) =
        0x274F20000040CD8C#64 := by decide +kernel

theorem test_rx10_group_is_never_unicast :
    let s := rxState 0x20000 [(.macAddr3, 1#32), (.macAddr5, 0x300#32), (.macRxcfg, 0x21#32)]
    let f := testFrame [0x03, 0x00, 0x00, 0x00, 0x00, 0x01]
    statusAfter (setReg s .macHash11 1#32) f = 0x1BFAE0000040CC8C#64 ∧
    (after (.deliver f) s).trace = [.log .rxUnmatched] := by decide +kernel

theorem test_rx11_primary_first :
    statusAfter (rxState 0x20000 [(.macAddr3, 0x3456#32), (.macAddr4, 0x12#32),
      (.macAddr5, 0x5254#32)]) (testFrame [0x52, 0x54, 0x00, 0x12, 0x34, 0x56]) =
        0x0E468000004048D1#64 := by decide +kernel

theorem test_rx13_upper_half_compares :
    (after (.classify ⟨0x52#8, 0x54#8, 0x00#8, 0x12#8, 0x34#8, 0x56#8⟩ 0xE468EE83#32)
      (placed [(.macAddr0, 0x13456#32)])).result = .addrMatch .noMatch := by decide +kernel

theorem test_rx14_ring_full :
    let f := testFrame [0xFF, 0xFF, 0xFF, 0xFF, 0xFF, 0xFF]
    let full := rxState 0x20000 [(.rxdmaKick, 1#32)]
    let t := after (.deliver f) (rxState 0x20000 [(.rxdmaKick, 2#32)])
    (after .canAccept full).result = .flag false ∧ (after (.deliver f) full).result = .count 0 ∧
    getReg t .rxdmaDone = 1#32 ∧ getReg t .gregStat = 0x30#32 := by decide +kernel

theorem test_rx15_masked_kick :
    (after .canAccept (rxState 0x20000 [(.rxdmaKick, 33#32)])).result = .flag false ∧
    (after .canAccept (rxState 0x20000 [(.rxdmaKick, 0#32)])).result = .flag true := by
  decide +kernel

theorem test_rx18_first_byte_offset :
    let t := after (.deliver (testFrame [0xFF, 0xFF, 0xFF, 0xFF, 0xFF, 0xFF]))
      (rxState 0x20005 [(.rxdmaCfg, 0x801#32)])
    readBytes t.mem 0x20000#64 4 = bytes [0, 0, 0xFF, 0xFF] ∧
    readBytes t.mem 0x10008#64 8 = bytes [0x05, 0, 0x02, 0, 0, 0, 0, 0] ∧
    (after (.rxdPosted 0#64 0x20005#64) (rxState 0 [(.rxdmaCfg, 0x801#32)])).result =
      .address 0x20002#64 := by decide +kernel

theorem test_rx19_checksum_start :
    statusAfter (rxState 0x20000 [(.rxdmaCfg, 0x1C001#32)])
      (testFrame [0x52, 0x54, 0x00, 0x12, 0x34, 0x56]) = 0x0E46800000403E27#64 := by decide +kernel

theorem test_rx20_checksum_beyond_the_frame :
    let f := testFrame [0x52, 0x54, 0x00, 0x12, 0x34, 0x56]
    statusAfter (rxState 0x20000 [(.rxdmaCfg, 0x78001#32)]) f = 0x0E4680000040FFFF#64 ∧
    statusAfter (rxState 0x20000 [(.rxdmaCfg, 0x76001#32)]) f = 0x0E468000004092FF#64 := by
  decide +kernel

/-- Program P2: a 40-byte frame, padded. -/
theorem test_program2_padding :
    let f := bytes [0x52, 0x54, 0x00, 0x12, 0x34, 0x56, 0x00, 0x11, 0x22, 0x33, 0x44, 0x55, 0x08, 0x00] ++
      counting 1 26
    (after (.deliver f) (rxState 0x20000 [])).result = .count 40 ∧
    statusAfter (rxState 0x20000 []) f = 0x0E468000004060F3#64 := by decide +kernel

/-- The write-back row writes the same bytes. -/
theorem test_write_back :
    let t := after (.rxdStatus 0x0E468000004060F3#64 0x20000#64) (rxState 0x20000 [])
    readBytes t.mem 0x10000#64 16 =
      bytes [0xF3, 0x60, 0x40, 0, 0, 0x80, 0x46, 0x0E, 0, 0, 0x02, 0, 0, 0, 0, 0] ∧
    getReg t .rxdmaDone = 1#32 := by decide +kernel

/-! ## Reset (section 8) -/

/-- The start state of V-RST-4. -/
def resetStart : State := placedHigh [(.gregStat, 0x37#32), (.gregImask, 0x30#32),
  (.mifCfg, 0xFFFFFDFF#32), (.macAddr0, 0x1111#32), (.macTxstat, 1#32)]

theorem test_rst2_transmit_side :
    let s := setTxAcc (placedHigh [(.gregStat, 6#32), (.txdmaTxdone, 1#32), (.txdmaCfg, 1#32)]) [1#8]
    let t := after (.wrGregSwrst 1#32) s
    t.txAcc = [] ∧ getReg t .txdmaTxdone = 0#32 ∧ getReg t .txdmaCfg = 0x118010#32 ∧
    getReg t .gregStat = 6#32 ∧ t.irq = true := by decide +kernel

theorem test_rst3_receive_side :
    let t := after (.swrstRx 2#32) (placed [(.rxdmaDone, 1#32), (.gregStat, 0x10#32)])
    getReg t .rxdmaDone = 0#32 ∧ getReg t .gregStat = 0x10#32 ∧
    after .resetRx (setReg (placed [(.rxdmaDone, 1#32), (.gregStat, 0x10#32)]) .gregSwrst 2#32) = t := by
  decide +kernel

theorem test_rst4_both_sides :
    let t := after (.swrstAll 7#32) resetStart
    getReg t .gregStat = 0#32 ∧ t.irq = false ∧ getReg t .gregSwrst = 4#32 ∧
    getReg t .mifCfg = 0x100#32 ∧ getReg t .macAddr0 = 0x1111#32 := by decide +kernel

theorem test_rst5_bus_reset :
    let t := after .busReset resetStart
    getReg t .gregSwrst = 0#32 ∧ getReg t .macAddr0 = 0x3456#32 ∧ getReg t .macTxstat = 1#32 ∧
    after (.resetAll true) resetStart = t := by decide +kernel

theorem test_rst7_store_only :
    after (.swrstNone 0#32) State.reset = setReg State.reset .gregSwrst 0#32 ∧
    (after .resetTx (setTxAcc State.reset [1#8])).txAcc = [] ∧
    (after (.swrstTx 1#32) (setTxAcc State.reset [1#8])).txAcc = [] := by decide +kernel

/-! ## Witnesses: states and operands that meet the hypotheses of each statement -/

/-- A write of TXDMA_KICK as a request. -/
def kickRequest : State :=
  setRequests State.reset [.op (.busWrite 4) (bytes [0x00, 0x20, 0, 0, 2, 0, 0, 0])]

theorem witness_DecodeOfEncode : defaultCfg.wellFormed = true ∧
    Instr.wellFormed defaultCfg (.rdUnmapped 0x3014#32) = true ∧
    encode defaultCfg (.rdUnmapped 0x3014#32) =
      some (.port (.busRead 4), [0x14#8, 0x30#8, 0#8, 0#8]) := by decide +kernel

theorem witness_EncodeOfDecode : defaultCfg.wellFormed = true ∧
    decodes (.port (.busRead 4)) [0x0C, 0, 0, 0] .rdGregStat = true ∧
    hasRow defaultCfg (.port .mif) [0#8, 0#8, 0#8, 0x60#8] ∧
    otherTag.wellFormed = true ∧ ¬ hasRow otherTag (.port .mif) [0#8, 0#8, 0#8, 0x50#8] ∧
    decodesUnder otherTag (.port .mif) [0, 0, 0, 0x50] (.wrMifFrame 0x50000000#32) = true := by
  unfold hasRow; decide +kernel

theorem witness_DecodedIsWellFormed : Source.port Port.canAccept ≠ Source.rxStatus ∧
    decodes (.port .canAccept) [] .canAccept = true := by decide +kernel

theorem witness_OffsetSelectsOneBankAndIndex :
    (defaultCfg.banks.any fun b => bankCovers b 0x3010) = true ∧
    (defaultCfg.banks.all fun b => !bankCovers b 0x3014) = true ∧
    regAt defaultCfg 0x000C = some .gregStat ∧ offsetOf defaultCfg .gregStat = 0x000C := by
  decide +kernel

theorem witness_StepRunsDecodedInstruction : State.reset.requests = [] ∧
    kickRequest.requests = [.op (.busWrite 4) (bytes [0x00, 0x20, 0, 0, 2, 0, 0, 0])] ∧
    decodes (.port (.busWrite 4)) [0x00, 0x20, 0, 0, 2, 0, 0, 0] (.wrTxdmaKick 2#32) = true := by
  decide +kernel

theorem witness_GuestStoreChangesOnlyItsBytes :
    (setRequests State.reset [.guestStore 5#64 [1#8]]).requests = [.guestStore 5#64 [1#8]] ∧
    ([1#8] : List Byte).length ≤ 2 ^ 64 := by decide +kernel

/-- Each clause at the edge of its range: one byte too few, one off the alignment, one word too far. -/
theorem witness_BusAccessRefused :
    (3 ≠ 4) ∧ (0x6031#32 : Word).toNat % 4 ≠ 0 ∧
    State.reset.cfg.spaceBytes ≤ (0x200000#32 : Word).toNat ∧
    busReaches State.reset.cfg 4 0x1FFFFC = true ∧
    (setRequests State.reset [.op (.busRead 3) (toLE 4 0x6030#32)]).requests =
      [.op (.busRead 3) (toLE 4 0x6030#32)] ∧
    (setRequests State.reset [.op (.busWrite 3) (toLE 4 0x6030#32 ++ [0#8, 0#8, 0#8])]).requests =
      [.op (.busWrite 3) (toLE 4 0x6030#32 ++ [0#8, 0#8, 0#8])] := by decide +kernel

theorem witness_rows_of_one_shape : (Instr.rdMacTxcfg, Reg.macTxcfg) ∈ storedReads ∧
    storedReads.length = 69 ∧ discardedWrites.length = 30 ∧ plainStores.length = 33 ∧
    (discardedWrites.map Prod.snd).contains .txdmaTxdone = true ∧
    (plainStores.map Prod.snd).contains .macTxcfg = true := by decide +kernel

/-- The two clauses of each statement over `RO_SET` and `CLEAR_ON_READ`: a register inside, one outside. -/
theorem witness_access_classes : Reg.txdmaPcnt ∈ State.reset.cfg.roSet ∧
    Reg.txdmaPcnt ∉ otherAccess.cfg.roSet ∧ Reg.macTxcfg ∉ State.reset.cfg.roSet ∧
    Reg.macTxcfg ∈ otherAccess.cfg.roSet ∧ Reg.macTxstat ∈ State.reset.cfg.clearOnRead ∧
    Reg.macTxstat ∉ otherAccess.cfg.clearOnRead ∧ Reg.txdmaPcnt ∉ State.reset.cfg.clearOnRead ∧
    Reg.txdmaPcnt ∈ otherAccess.cfg.clearOnRead := by decide +kernel

/-- The registers with an effect of their own are outside `RO_SET` by default. -/
theorem witness_written_registers : ([.gregImask, .gregIack, .gregPciemask, .gregSwrst, .txdmaKick,
    .macTxmask, .macRxmask, .macMcmask, .macMinfsz, .mifFrame, .mifCfg] : List Reg).all
      (fun r => !State.reset.cfg.roSet.contains r) = true := by decide +kernel

theorem witness_StatusReadClearsLatchedBits :
    LineSettled (placedHigh [(.gregStat, 0x4016#32)]) ∧
    (after .rdGregStat (placedHigh [(.gregStat, 0x4016#32)])).irq = true := by
  unfold LineSettled; decide +kernel

/-- The last offset of the space is unmapped, the word after the WOL bank too. -/
theorem witness_UnmappedOffsetsAreHarmless :
    busReaches State.reset.cfg 4 0x1FFFFC = true ∧ decodeOffset State.reset.cfg 0x1FFFFC = none ∧
    busReaches State.reset.cfg 4 0x3014 = true ∧ decodeOffset State.reset.cfg 0x3014 = none := by
  decide +kernel

/-- A plain word and the last WOL word. -/
theorem witness_UnnamedWordsAreStorage :
    busReaches State.reset.cfg 4 0x3010 = true ∧
    (decodeOffset State.reset.cfg 0x3010).isSome = true ∧ regAt State.reset.cfg 0x3010 = none ∧
    placeOf State.reset.cfg 0x3010 = .wol ∧ placeOf State.reset.cfg 0x4020 = .plain ∧
    (decodeOffset State.reset.cfg 0x4020).isSome = true ∧ regAt State.reset.cfg 0x4020 = none := by
  decide +kernel

/-- The configuration after reset is well-formed: the hypothesis of SubMaskWritesDeriveAggregates,
CascadeDerivesAggregates and OnlyNamedStatusBitsAppear. -/
theorem witness_wellFormed_configuration : State.reset.cfg.wellFormed = true ∧
    Instr.wellFormed State.reset.cfg (.setStatus 0x10#32 true) = true := by decide +kernel

theorem witness_SoftwareResetByRequestBits : swrstKind State.reset.cfg 3#32 = .all ∧
    swrstKind State.reset.cfg 2#32 = .rx ∧ swrstKind State.reset.cfg 1#32 = .tx ∧
    swrstKind State.reset.cfg 0#32 = .none := by decide +kernel

theorem witness_BusAccessFollowsTheStages : State.reset.cfg.wellFormed = true ∧
    busReaches State.reset.cfg 4 (0x1FFFFC#32 : Word).toNat = true ∧
    busReaches State.reset.cfg 4 (0#32 : Word).toNat = true := by decide +kernel

/-- One register for each clause. -/
theorem witness_WrittenWordReadsBack :
    exec (wrInstr datum .macTxcfg) State.reset = .next (after (.wrMacTxcfg datum) State.reset) ∧
    exec (rdInstr .macTxcfg) (after (.wrMacTxcfg datum) State.reset) =
      .next (after .rdMacTxcfg (after (.wrMacTxcfg datum) State.reset)) ∧
    Reg.macTxcfg ∉ State.reset.cfg.roSet ∧ Reg.txdmaTxdone ∈ State.reset.cfg.roSet ∧
    exec (rdInstr .txdmaTxdone) State.reset = .next (after .rdTxdmaTxdone State.reset) ∧
    exec (.miiOp datum) State.reset = .next (after (.miiOp datum) State.reset) :=
  ⟨rfl, rfl, by decide, by decide, rfl, rfl⟩

theorem witness_RingArithmetic : defaultCfg.ringszBits = 3 := rfl

/-- One frame for each clause: a write, a read, the two bad opcodes, the three bad tags. -/
theorem witness_ManagementFrameResult :
    (mifTag State.reset.cfg 0x50028000#32 = State.reset.cfg.mifStValid ∧
      mifOpcode State.reset.cfg 0x50028000#32 = 1#32) ∧
    (mifTag State.reset.cfg 0x600A0000#32 = State.reset.cfg.mifStValid ∧
      mifOpcode State.reset.cfg 0x600A0000#32 = 2#32) ∧
    (mifTag State.reset.cfg 0x40000000#32 = State.reset.cfg.mifStValid ∧
      mifOpcode State.reset.cfg 0x40000000#32 = 0#32) ∧
    (mifTag State.reset.cfg 0x70000000#32 = State.reset.cfg.mifStValid ∧
      mifOpcode State.reset.cfg 0x70000000#32 = 3#32) ∧
    (State.reset.cfg.mifStValid ≠ 0#32 ∧ mifTag State.reset.cfg 0x3FFFFFFF#32 = 0#32) ∧
    (State.reset.cfg.mifStValid ≠ 2#32 ∧ mifTag State.reset.cfg 0x80000000#32 = 2#32) ∧
    (State.reset.cfg.mifStValid ≠ 3#32 ∧ mifTag State.reset.cfg 0xFFFFFFFF#32 = 3#32) := by
  decide +kernel

/-- The first and the last listed register, and an unlisted one. -/
theorem witness_TransceiverRegisterReads :
    mifTag State.reset.cfg 0x60620000#32 = State.reset.cfg.mifStValid ∧
    mifOpcode State.reset.cfg 0x60620000#32 = 2#32 ∧ mifReg State.reset.cfg 0x60620000#32 = 24 ∧
    mifReg State.reset.cfg 0x60020000#32 = 0 ∧ mifReg State.reset.cfg 0x607E0000#32 = 31 ∧
    mifPhy State.reset.cfg 0x60620000#32 = State.reset.cfg.phyAddr.toNat ∧
    State.reset.cfg.phyTable = defaultPhyTable := by decide +kernel

theorem witness_DisabledKickDoesNothing :
    getReg State.reset .txdmaCfg &&& State.reset.cfg.dmacfgEnable = 0#32 ∧
    getReg State.reset .macTxcfg &&& State.reset.cfg.macTxcfgEnab = 0#32 := by decide +kernel

/-- An enabled kick with no descriptor, and one with two over which a frame is assembled: the hypotheses of
KickRunsUpToTheKickCursor and KickAssemblesTheRun. -/
theorem witness_enabled_kick :
    let s := txState 0x80000003 0x40000 0x40000002 0x40010
    s.cfg.ringszBits = 3 ∧ txEnabled s = true ∧ kickRun s = 0 ∧
    txEnabled (setReg s .txdmaKick 2#32) = true ∧ kickRun (setReg s .txdmaKick 2#32) = 2 ∧
    (assemble s.cfg s.mem [] 0#64 (kickDescriptors (setReg s .txdmaKick 2#32))).1 =
      [bytes [0x10, 0x11, 0x12, 0x20, 0x21]] := by decide +kernel

/-- One address for each clause of the classifier, in a state of the vectors. -/
theorem witness_ClassifierPriority :
    let s := rxState 0x20000 [(.macHash13, 0x40#32), (.macRxcfg, 0x21#32)]
    let a : MacAddr := ⟨0x01#8, 0x00#8, 0x5E#8, 0x00#8, 0x00#8, 0x01#8⟩
    classify (setReg s .macRxcfg 0x29#32) a 0#32 = .promiscuous ∧
    classify s ⟨0xFF#8, 0xFF#8, 0xFF#8, 0xFF#8, 0xFF#8, 0xFF#8⟩ 0#32 = .broadcast ∧
    classify (setReg s .macRxcfg 0x31#32) a 0#32 = .allMulticast ∧
    classify s a 0xD9B4C5FE#32 = .hashMulticast ∧ classify s a 0xDAB4C5FE#32 = .noMatch ∧
    classify s ⟨0x52#8, 0x54#8, 0x00#8, 0x12#8, 0x34#8, 0x56#8⟩ 0#32 = .primaryUnicast ∧
    classify s ⟨0#8, 0#8, 0#8, 0#8, 0#8, 0#8⟩ 0#32 = .altUnicast ∧
    classify s ⟨2#8, 0#8, 0#8, 0#8, 0#8, 0#8⟩ 0#32 = .noMatch := by decide +kernel

/-- Disabled; one byte too short; a good size and no match. -/
theorem witness_DroppedFramesHaveNoEffect :
    rxEnabled State.reset = false ∧ rxEnabled (rxState 0x20000 []) = true ∧
    (bytes [1, 2, 3, 4, 5]).length < (rxState 0x20000 []).cfg.rxMinLen ∧
    sizeRejected (rxState 0x20000 []) 60 = false ∧
    matchOf (rxState 0x20000 []) (testFrame [0x0A, 0x0B, 0x0C, 0x0D, 0x0E, 0x0F]) = .noMatch := by
  decide +kernel

/-- A full ring, with a frame that passes the checks and one that does not. -/
theorem witness_FullRingRefusesTheFrame :
    let s := rxState 0x20000 [(.rxdmaKick, 1#32)]
    let f := testFrame [0xFF, 0xFF, 0xFF, 0xFF, 0xFF, 0xFF]
    rxFull s = true ∧ rxEnabled s = true ∧ s.cfg.rxMinLen ≤ f.length ∧
    f.length + s.cfg.trailer ≤ maxFrame s ∧ matchOf s f ≠ .noMatch ∧
    matchOf s (testFrame [0x0A, 0x0B, 0x0C, 0x0D, 0x0E, 0x0F]) = .noMatch := by decide +kernel

/-- A frame of the floor length and one byte below it. -/
theorem witness_ShortFramesArePadded : (padFrame (List.replicate 59 1#8)).length = 60 ∧
    (padFrame (List.replicate 59 1#8))[59]? = some 0#8 ∧
    (padFrame (List.replicate 59 1#8))[58]? = some 1#8 ∧
    (padFrame (List.replicate 60 1#8)).length = 60 := by decide +kernel

/-- A frame that is stored; its last byte lies outside the slot. -/
theorem witness_StoredFrameIsInMemory :
    let s := rxState 0x20000 []
    let f := testFrame [0xFF, 0xFF, 0xFF, 0xFF, 0xFF, 0xFF]
    (rxEnabled s = true ∧ s.cfg.rxMinLen ≤ f.length ∧ f.length + s.cfg.trailer ≤ maxFrame s ∧
      matchOf s f ≠ .noMatch ∧ rxFull s = false) ∧
    (∀ k < 16, (0x20000#64 : Addr) + BitVec.ofNat 64 59 ≠ rxSlotAddr s + BitVec.ofNat 64 k) := by
  decide +kernel

theorem witness_ResetState : Reg.macTxcfg ∉ [Reg.rxdmaFsz, .rxdmaCfg, .txdmaFsz, .txdmaCfg, .gregImask,
      .mifCfg, .macAddr0, .macAddr1, .macAddr2] ∧
    Cfg.wellFormed { defaultCfg with rxMinLen := 5 } = false := by decide +kernel

theorem inv_reset : State.Inv State.reset := by constructor <;> decide +kernel

/-- A state that meets the invariants with a request, and its step. -/
theorem witness_StepKeepsInvariant : kickRequest.Inv ∧
    step kickRequest = .next (stepped kickRequest) ∧
    (stepped kickRequest).trace = [.log .txDisabled] :=
  ⟨by constructor <;> decide +kernel, rfl, by decide +kernel⟩

theorem witness_SubStatusStaysClear : (∀ r ∈ subStatusRegs, r ∈ kickRequest.cfg.roSet) ∧
    State.SubStatusClear kickRequest ∧
    step kickRequest = .next (stepped kickRequest) :=
  ⟨by decide +kernel, by unfold State.SubStatusClear; decide +kernel, rfl⟩

/-- A step of each kind the whole-machine rules speak of: the hypotheses of OnlyNamedStatusBitsAppear,
OnlyReceiveStoresToMemory, EnginesOwnTheirCursors and EnvironmentOwnsTheInputs. -/
theorem witness_whole_machine_rules :
    exec (.wrMacTxcfg 1#32) State.reset = .next (after (.wrMacTxcfg 1#32) State.reset) ∧
    storesToMemory (.wrMacTxcfg 1#32) = false ∧ movesTxCursor (.wrMacTxcfg 1#32) = false ∧
    movesRxCursor (.wrMacTxcfg 1#32) = false ∧ touchesAccumulator (.wrMacTxcfg 1#32) = false ∧
    Instr.wellFormed State.reset.cfg (.wrMacTxcfg 1#32) = true ∧
    Reg.gregStat ∈ State.reset.cfg.roSet ∧ Reg.txdmaTxdone ∈ State.reset.cfg.roSet ∧
    Reg.rxdmaDone ∈ State.reset.cfg.roSet ∧ Reg.txdmaTxdone ∉ State.reset.cfg.clearOnRead ∧
    Reg.rxdmaDone ∉ State.reset.cfg.clearOnRead ∧
    getReg (after (.wrMacTxcfg 1#32) State.reset) .macTxcfg = 1#32 :=
  ⟨rfl, rfl, rfl, rfl, rfl, rfl, by decide +kernel⟩

end Sys2Proof.Tests
end

section
/-! The rows of the opcode table by their shape, with the meaning and the encoding of the register rows:
a proof about every instruction has one case for the 74 register reads, one for the 74 register writes,
and one for each other row. -/
namespace Sys2Proof.Rows

open Sys2Proof.Machine

/-- The register of a register row: the constructors stand in the order of table T2, the read and then the
write of each register. -/
def rowReg (i : Instr) : Reg := (Reg.all.flatMap fun r => [r, r]).getD i.ctorIdx .gregStat

/-- The shapes of the rows. -/
inductive Row : Instr → Prop where
  -- the words and offsets no register is named at
  | rdPlainWord off : Row (.rdPlainWord off) | wrPlainWord off v : Row (.wrPlainWord off v)
  | rdWolWord off : Row (.rdWolWord off) | wrWolWord off v : Row (.wrWolWord off v)
  | rdUnmapped off : Row (.rdUnmapped off) | wrUnmapped off v : Row (.wrUnmapped off v)
  -- the data words
  | swrstAll v : Row (.swrstAll v) | swrstRx v : Row (.swrstRx v)
  | swrstTx v : Row (.swrstTx v) | swrstNone v : Row (.swrstNone v)
  | mifWrite v : Row (.mifWrite v) | mifRead v : Row (.mifRead v)
  | mifBadOp0 v : Row (.mifBadOp0 v) | mifBadOp3 v : Row (.mifBadOp3 v)
  | mifBadTag0 v : Row (.mifBadTag0 v) | mifBadTag2 v : Row (.mifBadTag2 v)
  | mifBadTag3 v : Row (.mifBadTag3 v)
  | phyreg0Control v : Row (.phyreg0Control v) | phyreg1Status v : Row (.phyreg1Status v)
  | phyreg2IdentifierHigh v : Row (.phyreg2IdentifierHigh v)
  | phyreg3IdentifierLow v : Row (.phyreg3IdentifierLow v)
  | phyreg4Advertisement v : Row (.phyreg4Advertisement v)
  | phyreg5LinkPartner v : Row (.phyreg5LinkPartner v)
  | phyreg24Auxiliary v : Row (.phyreg24Auxiliary v) | phyregOther v : Row (.phyregOther v)
  -- the descriptors
  | txd ctl buf : Row (.txd ctl buf) | rxdPosted status buf : Row (.rxdPosted status buf)
  | rxdStatus status buf : Row (.rxdStatus status buf)
  -- the other ports
  | canAccept : Row .canAccept | deliver frame : Row (.deliver frame) | busReset : Row .busReset
  | setLink up : Row (.setLink up)
  -- the internal procedures
  | kick : Row .kick | evaluate : Row .evaluate | cascade : Row .cascade | ack v : Row (.ack v)
  | setStatus bits on : Row (.setStatus bits on) | miiOp v : Row (.miiOp v)
  | classify dst crc : Row (.classify dst crc) | resetRx : Row .resetRx | resetTx : Row .resetTx
  | resetAll isBusReset : Row (.resetAll isBusReset)
  -- the named registers
  | readReg r : Row (rdInstr r) | writeReg r v : Row (wrInstr v r)

/-- Every instruction has one of the shapes. -/
theorem row (i : Instr) : Row i := by
  have read (h : rdInstr (rowReg i) = i) : Row i := h ▸ .readReg _
  have write (v : Word) (h : wrInstr v (rowReg i) = i) : Row i := h ▸ .writeReg _ v
  cases i <;> first | exact read rfl | exact write ‹Word› rfl | constructor

/-- The 74 register reads together are the read of R140. -/
theorem exec_rdInstr (r : Reg) (s : State) :
    exec (rdInstr r) s = returning (busReadReg s r).2 (.word (busReadReg s r).1) := by
  cases r <;> rfl

/-- The 74 register writes together are the write of R141. -/
theorem exec_wrInstr (r : Reg) (v : Word) (s : State) :
    exec (wrInstr v r) s = done (busWriteReg s r v) := by
  cases r <;> rfl

@[simp] theorem encode_rdInstr (cfg : Cfg) (r : Reg) :
    encode cfg (rdInstr r) = some (readReg cfg r) := by
  cases r <;> rfl

@[simp] theorem encode_wrInstr (cfg : Cfg) (r : Reg) (v : Word) :
    encode cfg (wrInstr v r) = some (writeReg cfg r v) := by
  cases r <;> rfl

end Sys2Proof.Rows
end

section
/-! Ring arithmetic (R17, R39): a ring size is a power of two, so its mask is a remainder. -/
namespace Sys2Proof.Rings

open Sys2Proof.Machine

theorem ringExp_le_seven {cfg : Cfg} (h : cfg.ringszBits = 3) (c : Word) : ringExp cfg c ≤ 7 := by
  simp only [ringExp, h, BitVec.toNat_and]
  exact Nat.and_le_right

theorem ringSize_eq_two_pow (cfg : Cfg) (c : Word) : ringSize cfg c = 2 ^ (5 + ringExp cfg c) := by
  rw [ringSize, Nat.pow_add]
  rfl

theorem ringSize_pos (cfg : Cfg) (c : Word) : 0 < ringSize cfg c := by
  rw [ringSize_eq_two_pow]
  exact Nat.two_pow_pos _

theorem ringSize_mem {cfg : Cfg} (h : cfg.ringszBits = 3) (c : Word) :
    ringSize cfg c ∈ [32, 64, 128, 256, 512, 1024, 2048, 4096] := by
  have hexp := ringExp_le_seven h c
  rw [ringSize]
  interval_cases ringExp cfg c <;> decide

/-- A 3-bit ring is far smaller than the 32-bit cursors count. -/
theorem ringSize_le {cfg : Cfg} (h : cfg.ringszBits = 3) (c : Word) : ringSize cfg c ≤ 2 ^ 32 := by
  have hexp := ringExp_le_seven h c
  rw [ringSize_eq_two_pow]
  exact Nat.pow_le_pow_right (by decide) (by omega)

section
variable {cfg : Cfg} {c : Word} (h : ringSize cfg c ≤ 2 ^ 32)
include h

theorem ringSize_dvd : ringSize cfg c ∣ 2 ^ 32 := by
  rw [ringSize_eq_two_pow] at *
  exact Nat.pow_dvd_pow 2 ((Nat.pow_le_pow_iff_right (by decide)).mp h)

theorem toNat_ringMask : (ringMask cfg c).toNat = ringSize cfg c - 1 := by
  have hpos := ringSize_pos cfg c
  rw [ringMask, BitVec.toNat_ofNat, Nat.mod_eq_of_lt (by omega)]

theorem toNat_and_ringMask (slot : Word) :
    (slot &&& ringMask cfg c).toNat = slot.toNat % ringSize cfg c := by
  rw [BitVec.toNat_and, toNat_ringMask h, ringSize_eq_two_pow, Nat.and_two_pow_sub_one_eq_mod]

/-- The wrap of the 32-bit cursor is a wrap of the ring too. -/
theorem toNat_advance_ringMask (slot : Word) :
    (advance (ringMask cfg c) slot).toNat = (slot.toNat + 1) % ringSize cfg c := by
  rw [advance, toNat_and_ringMask h, BitVec.toNat_add]
  exact Nat.mod_mod_of_dvd _ (ringSize_dvd h)

end

/-- Settles O27: with a 3-bit field the ring size is a power of two of at most 2^12. -/
theorem ringArithmetic : Obligations.RingArithmetic := by
  intro cfg c slot h
  have hle := ringSize_le h c
  have hpos := ringSize_pos cfg c
  refine ⟨ringSize_mem h c, ?_, toNat_and_ringMask hle slot, toNat_advance_ringMask hle slot⟩
  rw [toNat_ringMask hle, Nat.sub_add_cancel hpos]

end Sys2Proof.Rings
end

section
/-! The checksum (R19): folding keeps the sum modulo 65535 and ends below 2^16, where the complement of a
16-bit word is its difference from 65535. -/
namespace Sys2Proof.Checksum

open Sys2Proof.Machine Sys2Proof.Laws

theorem toNat_csum16 (b : List Byte) :
    (csum16 b).toNat = 65535 - csumFold (csumSum b) (csumSum b) := by
  have hlt := csumFold_lt (csumSum b) (csumSum b) (by omega)
  rw [csum16, BitVec.toNat_not, BitVec.toNat_ofNat, Nat.mod_eq_of_lt hlt]

theorem csumSum_add_csum16 (b : List Byte) : (csumSum b + (csum16 b).toNat) % 65535 = 0 := by
  have hlt := csumFold_lt (csumSum b) (csumSum b) (by omega)
  have hmod := csumFold_mod (csumSum b) (csumSum b)
  rw [toNat_csum16]
  omega

/-- Settles O28, from what the folding loop keeps. -/
theorem checksumComplementsTheSum : Obligations.ChecksumComplementsTheSum :=
  ⟨csumSum_add_csum16, rfl, fun _ => rfl⟩

end Sys2Proof.Checksum
end

section
/-! What belongs to the environment (R9, R61): the configuration, the link flag and the requests still to
come, for each shared operation a row calls and then for every row. -/
namespace Sys2Proof.Inputs

open Sys2Proof.Machine Sys2Proof.Laws Sys2Proof.Rows

variable (s : State)

theorem inputsKept_softReset (v : Word) : InputsKept s (softReset s v) := by
  unfold softReset
  split <;> simp [InputsKept]

theorem inputsKept_unlessReadOnly (r : Reg) {t : State} (h : InputsKept s t) :
    InputsKept s (unlessReadOnly s r t) :=
  unlessReadOnly_cases (P := InputsKept s) r t ⟨rfl, rfl, rfl⟩ fun _ => h

theorem inputsKept_busReadReg (r : Reg) : InputsKept s (busReadReg s r).2 := by
  unfold busReadReg
  split <;> simp [InputsKept]

theorem inputsKept_afterStore (r : Reg) (v : Word) : InputsKept s (afterStore s r v) := by
  cases r
  case gregSwrst => exact inputsKept_softReset s v
  all_goals simp [afterStore, InputsKept]

theorem inputsKept_busWriteReg (r : Reg) (v : Word) : InputsKept s (busWriteReg s r v) := by
  apply inputsKept_unlessReadOnly
  split
  · simp [InputsKept]
  · exact inputsKept_afterStore (setReg s r (maskWrite s.cfg r v)) r (maskWrite s.cfg r v)

/-- Every row but `SetLink` returns a state with the inputs it found. -/
theorem exec_inputsKept (i : Instr) (h : ∀ up, i ≠ .setLink up) :
    ∃ t res, exec i s = returning t res ∧ InputsKept s t := by
  cases row i with
  | readReg r => exact ⟨_, _, exec_rdInstr r s, inputsKept_busReadReg s r⟩
  | writeReg r v => exact ⟨_, _, exec_wrInstr r v s, inputsKept_busWriteReg s r v⟩
  | setLink up => exact absurd rfl (h up)
  | swrstAll v | swrstRx v | swrstTx v | swrstNone v =>
    exact ⟨_, _, rfl, inputsKept_unlessReadOnly s _ (by simp [InputsKept, storeSwrst])⟩
  | mifWrite v | mifRead v =>
    exact ⟨_, _, rfl, inputsKept_unlessReadOnly s _ (by simp [InputsKept])⟩
  | mifBadOp0 v | mifBadOp3 v =>
    exact ⟨_, _, rfl, inputsKept_unlessReadOnly s _ (by simp [InputsKept, badOpcode])⟩
  | mifBadTag0 v | mifBadTag2 v | mifBadTag3 v =>
    exact ⟨_, _, rfl, inputsKept_unlessReadOnly s _ (by simp [InputsKept, badTag])⟩
  | phyreg0Control v | phyreg1Status v | phyreg2IdentifierHigh v | phyreg3IdentifierLow v
  | phyreg4Advertisement v | phyreg5LinkPartner v | phyreg24Auxiliary v | phyregOther v =>
    exact ⟨_, _, rfl, inputsKept_unlessReadOnly s _ (by simp [InputsKept, readPhyReg])⟩
  | _ => exact ⟨_, _, rfl, by simp [InputsKept]⟩

/-- Settles O59: `SetLink` replaces the link flag alone, every other row keeps all the inputs. -/
theorem environmentOwnsTheInputs : Obligations.EnvironmentOwnsTheInputs := by
  intro i s t ht
  by_cases h : ∃ up, i = .setLink up
  · obtain ⟨up, rfl⟩ := h
    cases ht
    exact ⟨rfl, rfl, fun hne => absurd rfl (hne up)⟩
  · obtain ⟨u, res, hu, hcfg, hlink, hreq⟩ := exec_inputsKept s i (not_exists.mp h)
    cases hu.symm.trans ht
    exact ⟨hcfg, hreq, fun _ => hlink⟩

end Sys2Proof.Inputs
end

section
/-! Which rows have an encoding, and what a step runs (R22, R23, R190). -/
namespace Sys2Proof.Presented

open Sys2Proof.Machine Sys2Proof.Rows

/-- Settles O4, by the shape of the row. -/
theorem onlyInternalProceduresHaveNoEncoding :
    Obligations.OnlyInternalProceduresHaveNoEncoding := by
  intro cfg i
  constructor
  · intro h
    cases row i with
    | kick | evaluate | cascade | ack v | setStatus bits on | miiOp v | classify dst crc | resetRx
    | resetTx | resetAll isBusReset => simp
    | readReg r => simp at h
    | writeReg r v => simp at h
    | _ => cases h
  · rintro (rfl | rfl | rfl | ⟨v, rfl⟩ | ⟨bits, on, rfl⟩ | ⟨v, rfl⟩ | ⟨dst, crc, rfl⟩ | rfl | rfl |
      ⟨isBusReset, rfl⟩) <;> rfl

theorem step_of_no_request {s : State} (h : s.requests = []) : step s = .next s := by
  simp [step, runNext, h]

theorem step_of_decoded {s : State} {p : Port} {bytes : List Byte} {rest : List Request} {i : Instr}
    (hq : s.requests = .op p bytes :: rest) (hd : decode s.cfg (.port p) bytes = .ok i) :
    step s = exec i (setRequests s rest) := by
  simp [step, runNext, hq, hd]

/-- Settles O7. -/
theorem stepRunsDecodedInstruction : Obligations.StepRunsDecodedInstruction :=
  fun _ => ⟨step_of_no_request, fun _ _ _ _ hq hd => ⟨step_of_decoded hq hd, rfl⟩⟩

end Sys2Proof.Presented
end

section
/-! Power-on (R10, R64, R346): the reset state is what `ResetAll(true)` makes of the zeroed block. -/
namespace Sys2Proof.PowerOn

open Sys2Proof.Machine Sys2Proof.Laws Sys2Proof.Claims

theorem rxAtReset_resetAll (s : State) (b : Bool) : RxAtReset (resetAll s b) := by
  simp [RxAtReset, getReg_resetAll_engines, getReg_resetRx_regs]

theorem txAtReset_resetAll (s : State) (b : Bool) : TxAtReset (resetAll s b) := by
  simp [TxAtReset, getReg_resetAll_engines, getReg_resetTx_regs]

/-- What both forms of `ResetAll` leave (R343). -/
theorem allAtReset_resetAll (s : State) (b : Bool) : AllAtReset (resetAll s b) := by
  obtain ⟨himask, hstat, hmif, -⟩ := getReg_resetAll_regs s b
  exact ⟨rxAtReset_resetAll s b, txAtReset_resetAll s b, by simpa using himask, hstat,
    by simpa using hmif, resetAll_irq s b⟩

theorem wellFormed_defaultCfg : defaultCfg.wellFormed = true := by decide +kernel

theorem reset_eq_resetAll : State.reset = resetAll (zeroed defaultCfg false []) true := rfl

theorem construct_of_wellFormed {cfg : Cfg} (h : cfg.wellFormed = true) (linkUp : Bool)
    (mem : Memory) : construct cfg linkUp mem = .next (resetAll (zeroed cfg linkUp mem) true) :=
  if_pos h

theorem construct_of_illFormed {cfg : Cfg} (h : cfg.wellFormed = false) (linkUp : Bool)
    (mem : Memory) : construct cfg linkUp mem = .refused .illFormedConfiguration :=
  if_neg (by simp [h])

theorem getReg_reset (r : Reg) : getReg State.reset r = resetReg defaultCfg r := by
  cases r <;> rfl

/-- The registers whose reset value is a parameter of the configuration (R64). -/
def configuredRegs : List Reg := [.rxdmaFsz, .rxdmaCfg, .txdmaFsz, .txdmaCfg, .gregImask, .mifCfg,
  .macAddr0, .macAddr1, .macAddr2]

theorem resetReg_of_not_mem (cfg : Cfg) {r : Reg} (h : r ∉ configuredRegs) :
    resetReg cfg r = 0#32 := by
  unfold resetReg
  split <;> simp_all [configuredRegs]

/-- Settles O53. -/
theorem resetState : Obligations.ResetState :=
  ⟨construct_of_wellFormed wellFormed_defaultCfg false [],
    reset_eq_resetAll ▸ allAtReset_resetAll _ true,
    rfl, rfl, rfl,
    fun r hr => (getReg_reset r).trans (resetReg_of_not_mem defaultCfg hr),
    fun _ => rfl, rfl,
    fun _ linkUp mem h => construct_of_illFormed h linkUp mem⟩

end Sys2Proof.PowerOn
end

section
/-! The register rows of one shape (table T2): the reads without a rule of their own, and the writes
that only store. -/
namespace Sys2Proof.RegisterRows

open Sys2Proof.Machine Sys2Proof.Laws Sys2Proof.Claims Sys2Proof.Rows

theorem onlyRegs_setResult (s : State) (res : Result) : OnlyRegs [] s (setResult s res) :=
  ⟨fun _ _ => rfl, fun _ => rfl, fun _ => rfl, ⟨rfl, rfl⟩, rfl, rfl, rfl⟩

theorem silent_setResult (s : State) (res : Result) : Silent s (setResult s res) := ⟨rfl, rfl⟩

/-! ### Reads (R140) -/

/-- The registers whose read has a rule of its own: the two status words (R146, R148) and the sub-status
registers (R164 to R166). -/
def ruledReads : List Reg := [.gregStat, .gregStat2, .macTxstat, .macRxstat, .macCstat]

theorem storedReads_rows : ∀ p ∈ storedReads, p.1 = rdInstr p.2 ∧ p.2 ∉ ruledReads := by
  decide +kernel

theorem busReadReg_of_not_ruled (s : State) {r : Reg} (hr : r ∉ ruledReads) :
    busReadReg s r = (getReg s r, afterRead s r) := by
  unfold busReadReg
  split <;> simp_all [ruledReads]

theorem keptOnRead_of_not_ruled (cfg : Cfg) {r : Reg} (hr : r ∉ ruledReads) :
    keptOnRead cfg r = 0#32 := by
  unfold keptOnRead
  split <;> simp_all [ruledReads]

theorem aggregateOf_of_not_ruled (cfg : Cfg) {r : Reg} (hr : r ∉ ruledReads) :
    aggregateOf cfg r = 0#32 := by
  unfold aggregateOf
  split <;> simp_all [ruledReads]

/-- `Evaluate()` outputs the change of the line and nothing else (R191). -/
theorem outputs_evaluate (s : State) : OutputsThenLine [] s (evaluate s) := by
  unfold OutputsThenLine evaluate driveIrq
  split <;> simp_all [eq_comm]

/-- A clearing read (R164 to R166; log entry 14). -/
theorem readDone_clearSubStatus (s : State) {r : Reg} (kept aggregate : Word) (hr : r ≠ .gregStat)
    (hmem : r ∈ s.cfg.clearOnRead) :
    ReadDone r kept aggregate s
      (setResult (clearSubStatus s r kept aggregate) (.word (getReg s r))) := by
  refine ⟨rfl, fun hnot => absurd hmem hnot, fun _ => ⟨?_, ?_, ?_, ?_, ?_⟩⟩
  · simp [getReg_clearSubStatus, hr]
  · simp [getReg_clearSubStatus, hr]
  · refine ⟨fun q hq => ?_, fun a => ?_, fun a => ?_, ?_, ?_⟩
    · simp_all [getReg_clearSubStatus]
    · simp
    · simp
    · simp [AccumulatorKept]
    · simp [InputsKept]
  · simp [LineSettled, clearSubStatus]
  · exact outputs_evaluate _

theorem readDone_afterRead (s : State) {r : Reg} (hr : r ≠ .gregStat) :
    ReadDone r (keptOnRead s.cfg r) (aggregateOf s.cfg r) s
      (setResult (afterRead s r) (.word (getReg s r))) := by
  by_cases h : r ∈ s.cfg.clearOnRead
  · rw [afterRead_of_mem h]
    exact readDone_clearSubStatus s _ _ hr h
  · rw [afterRead_of_not_mem h]
    exact ⟨rfl, fun _ => ⟨onlyRegs_setResult s _, silent_setResult s _⟩, fun hmem => absurd hmem h⟩

/-- Settles O11: each of the 69 reads is the generic read of its register. -/
theorem storedReadsReturnTheWord : Obligations.StoredReadsReturnTheWord := by
  refine ⟨by decide +kernel, fun p hp s => ?_⟩
  obtain ⟨hrow, hr⟩ := storedReads_rows p hp
  have hstat : p.2 ≠ .gregStat := fun h => hr (by simp [ruledReads, h])
  have hdone := readDone_afterRead s hstat
  rw [keptOnRead_of_not_ruled s.cfg hr, aggregateOf_of_not_ruled s.cfg hr] at hdone
  exact ⟨_, by rw [hrow, exec_rdInstr, busReadReg_of_not_ruled s hr]; rfl, hdone⟩

/-! ### Writes (R141) -/

/-- The registers whose write has a mask or an effect besides the store (R141). -/
def ruledWrites : List Reg := [.gregIack, .gregImask, .gregPciemask, .gregSwrst, .txdmaKick, .macTxmask,
  .macRxmask, .macMcmask, .macMinfsz, .mifFrame, .mifCfg]

theorem busWriteReg_of_mem (s : State) {r : Reg} (v : Word) (h : r ∈ s.cfg.roSet) :
    busWriteReg s r v = s := unlessReadOnly_of_mem _ h

theorem maskWrite_of_not_ruled (cfg : Cfg) {r : Reg} (v : Word) (hr : r ∉ ruledWrites) :
    maskWrite cfg r v = v := by
  unfold maskWrite
  split <;> simp_all [ruledWrites]

theorem afterStore_of_not_ruled (s : State) {r : Reg} (v : Word) (hr : r ∉ ruledWrites) :
    afterStore s r v = s := by
  unfold afterStore
  split <;> simp_all [ruledWrites]

theorem busWriteReg_of_not_ruled (s : State) {r : Reg} (v : Word) (hr : r ∉ ruledWrites) :
    busWriteReg s r v = unlessReadOnly s r (setReg s r v) := by
  have hack : r ≠ .gregIack := fun h => hr (by simp [ruledWrites, h])
  rw [busWriteReg, if_neg hack, maskWrite_of_not_ruled s.cfg v hr, afterStore_of_not_ruled _ v hr]

/-- The bare store of a word (R33). -/
theorem storeDone_setReg (s : State) (r : Reg) (v : Word) :
    StoreDone r v s (setResult (unlessReadOnly s r (setReg s r v)) .none) := by
  refine ⟨rfl, fun hro => ?_, fun hro => ?_⟩
  · rw [unlessReadOnly_of_mem _ hro]
    exact ⟨onlyRegs_setResult s _, silent_setResult s _⟩
  · rw [unlessReadOnly_of_not_mem _ hro]
    refine ⟨by simp, ⟨fun q hq => ?_, fun _ => rfl, fun _ => rfl, ⟨rfl, rfl⟩, rfl, rfl, rfl⟩, rfl, rfl⟩
    simp_all [eq_comm]

theorem storeDone_wrInstr (s : State) {r : Reg} (v : Word) (hr : r ∉ ruledWrites) :
    ∃ t, exec (wrInstr v r) s = .next t ∧ StoreDone r v s t :=
  ⟨_, by rw [exec_wrInstr, busWriteReg_of_not_ruled s v hr]; rfl, storeDone_setReg s r v⟩

theorem discardedWrites_rows (v : Word) : ∀ p ∈ discardedWrites, p.1 v = wrInstr v p.2 := by
  simp [discardedWrites, wrInstr]

theorem plainStores_rows (v : Word) : ∀ p ∈ plainStores, p.1 v = wrInstr v p.2 := by
  simp [plainStores, wrInstr]

theorem discardedWrites_not_ruled : ∀ r ∈ discardedWrites.map Prod.snd, r ∉ ruledWrites := by decide

theorem plainStores_not_ruled : ∀ r ∈ plainStores.map Prod.snd, r ∉ ruledWrites := by decide

/-- Settles O17: stage 1 of the write (R141) for a register of `RO_SET`, the bare store for one of the
30 that a configuration leaves out. -/
theorem discardedWritesChangeNothing : Obligations.DiscardedWritesChangeNothing := by
  refine ⟨fun r => Iff.rfl, fun r v s hro => ?_, fun p hp v s => ?_⟩
  · refine ⟨setResult s .none, ?_, rfl, onlyRegs_setResult s _, silent_setResult s _⟩
    rw [exec_wrInstr, busWriteReg_of_mem s v hro]
    rfl
  · rw [discardedWrites_rows v p hp]
    exact storeDone_wrInstr s v (discardedWrites_not_ruled p.2 (List.mem_map_of_mem hp))

/-- Settles O18. -/
theorem plainStoresStoreTheWord : Obligations.PlainStoresStoreTheWord := by
  intro p hp v s
  rw [plainStores_rows v p hp]
  exact storeDone_wrInstr s v (plainStores_not_ruled p.2 (List.mem_map_of_mem hp))

end Sys2Proof.RegisterRows
end

section
/-! What an instruction can do. `Written` says which word a register may hold after an instruction, by
the word it held before; `Effect` adds the accumulator and the canonical form of the two sparse stores.
Each shared operation extends an effect, and `exec_effect` says it of every row: the invariants below are
read off it. -/
namespace Sys2Proof.Effects

open Sys2Proof.Machine Sys2Proof.Laws Sys2Proof.Claims Sys2Proof.Rows

/-! ### What a register may hold after an instruction -/

/-- The status masks the operations report with: those of the named bits (R200) but the receive tag error,
which none reports. -/
def reportedMasks (cfg : Cfg) : List Word := [cfg.statTxIntme, cfg.statTxAll, cfg.statTxDone,
  cfg.statRxDone, cfg.statRxNoBuf, cfg.statTxMac, cfg.statRxMac, cfg.statMac]

/-- The status bits that `SetStatus` is given as an operand (R200). -/
def requestedStatus : Instr → Word
  | .setStatus bits _ => bits
  | _ => 0#32

/-- The status bits that may appear with an instruction. -/
def reportable (cfg : Cfg) (i : Instr) : Word :=
  (reportedMasks cfg).foldr (· ||| ·) (requestedStatus i)

/-- No bit is set that is in neither word. -/
def BitsWithin (new old more : Word) : Prop :=
  ∀ k, new.getLsbD k = true → old.getLsbD k = true ∨ more.getLsbD k = true

/-- The registers outside the engines that a full reset gives their reset value (R343). -/
def globalResetRegs : List Reg := [.gregImask, .mifCfg, .macAddr0, .macAddr1, .macAddr2]

/-- The registers in which an operation leaves its answer (R154, R177). -/
def answerRegs : List Reg := [.gregSwrst, .mifFrame]

/-- `Written cfg i r old new`: the instruction may leave `new` in the register that held `old`. -/
inductive Written (cfg : Cfg) (i : Instr) : Reg → Word → Word → Prop
  /-- Nothing writes it. -/
  | kept (r : Reg) (old : Word) : Written cfg i r old old
  /-- The store of a bus write (R141). -/
  | stored {r : Reg} {v : Word} (old : Word) (row : i = wrInstr v r) (writable : r ∉ cfg.roSet)
      (notAck : r ≠ .gregIack) : Written cfg i r old (maskWrite cfg r v)
  /-- A clearing read (R164 to R166). -/
  | cleared {r : Reg} (old keep : Word) (clears : r ∈ cfg.clearOnRead) (notStat : r ≠ .gregStat) :
      Written cfg i r old (old &&& keep)
  /-- Status bits set and cleared (R200). -/
  | reported (old new : Word)
      (appear : .gregStat ∈ cfg.roSet → BitsWithin new old (reportable cfg i)) :
      Written cfg i .gregStat old new
  /-- The transmit completion cursor advanced on a ring of some size (R247). -/
  | txAdvanced (old config slot : Word) (moves : movesTxCursor i = true) :
      Written cfg i .txdmaTxdone old (advance (ringMask cfg config) slot)
  /-- The receive done cursor advanced on a ring of some size (R284). -/
  | rxAdvanced (old config slot : Word) (moves : movesRxCursor i = true) :
      Written cfg i .rxdmaDone old (advance (ringMask cfg config) slot)
  /-- A transmit reset (R342). -/
  | txReset {r : Reg} (old : Word) (named : r ∈ txResetRegs) (moves : movesTxCursor i = true) :
      Written cfg i r old (resetReg cfg r)
  /-- A receive reset (R341). -/
  | rxReset {r : Reg} (old : Word) (named : r ∈ rxResetRegs) (moves : movesRxCursor i = true) :
      Written cfg i r old (resetReg cfg r)
  /-- A full reset (R343). -/
  | globalReset {r : Reg} (old : Word) (named : r ∈ globalResetRegs) : Written cfg i r old (resetReg cfg r)
  /-- The answer of an operation. -/
  | answered {r : Reg} (old new : Word) (named : r ∈ answerRegs) : Written cfg i r old new

section
variable {cfg : Cfg} {i : Instr} {old new : Word}

theorem BitsWithin.refl (old more : Word) : BitsWithin old old more := fun _ => .inl

theorem BitsWithin.trans {mid more : Word} (h : BitsWithin mid old more) (h' : BitsWithin new mid more) :
    BitsWithin new old more := fun k hk => (h' k hk).elim (h k) .inr

theorem BitsWithin.and (old keep more : Word) : BitsWithin (old &&& keep) old more := by
  intro k hk
  simp_all

theorem BitsWithin.or {a b more : Word} (ha : BitsWithin a old more) (hb : BitsWithin b old more) :
    BitsWithin (a ||| b) old more := by
  intro k hk
  rw [BitVec.getLsbD_or, Bool.or_eq_true] at hk
  exact hk.elim (ha k) (hb k)

theorem BitsWithin.or_of_within {bits more : Word} (h : BitsWithin bits 0#32 more) (old : Word) :
    BitsWithin (old ||| bits) old more :=
  (BitsWithin.refl old more).or fun k hk => .inr ((h k hk).resolve_left (by simp))

/-- A mask that the operations report with may appear with every instruction. -/
theorem within_reportable {bits : Word} (h : bits ∈ reportedMasks cfg) (i : Instr) :
    BitsWithin bits 0#32 (reportable cfg i) := by
  intro k hk
  simp only [reportedMasks, List.mem_cons, List.not_mem_nil, or_false] at h
  rcases h with rfl | rfl | rfl | rfl | rfl | rfl | rfl | rfl <;> simp [reportable, reportedMasks, hk]

/-- The status bits that appear with an instruction, where the bus does not write GREG_STAT. -/
theorem Written.appear (h : Written cfg i .gregStat old new) (hro : .gregStat ∈ cfg.roSet) :
    BitsWithin new old (reportable cfg i) := by
  cases h with
  | kept => exact .refl _ _
  | stored _ _ writable _ => exact absurd hro writable
  | cleared _ _ _ notStat => exact absurd rfl notStat
  | reported _ _ appear => exact appear hro
  | txReset _ named _ | rxReset _ named _ | globalReset _ named | answered _ _ named =>
    exact absurd named (by decide)

/-- Further status bits set or cleared by the same instruction. -/
theorem Written.report {mid : Word} (h : Written cfg i .gregStat old mid)
    (h' : BitsWithin new mid (reportable cfg i)) : Written cfg i .gregStat old new :=
  .reported old new fun hro => (h.appear hro).trans h'

end

/-! ### What an instruction may change -/

/-- What holds of the state `t` that an instruction, run in `s`, has reached. -/
structure Effect (i : Instr) (s t : State) : Prop where
  cfg : t.cfg = s.cfg
  regs : ∀ r, Written s.cfg i r (getReg s r) (getReg t r)
  accKept : touchesAccumulator i = false → AccumulatorKept s t
  accBounded : s.txAcc.length ≤ s.cfg.txAccMax → t.txAcc.length ≤ s.cfg.txAccMax
  words : wordsWf s.words = true → wordsWf t.words = true
  memory : Memory.wf s.mem = true → Memory.wf t.mem = true

section
variable {i : Instr} {s t : State}

theorem Effect.refl (i : Instr) (s : State) : Effect i s s :=
  ⟨rfl, fun _ => .kept _ _, fun _ => ⟨rfl, rfl⟩, id, id, id⟩

/-- Only the line, the inputs, the result or the outputs differ. -/
theorem Effect.congr (h : Effect i s t) {u : State} (hcfg : u.cfg = t.cfg) (hregs : u.regs = t.regs)
    (hacc : u.txAcc = t.txAcc) (hfirst : u.txFirstCtl = t.txFirstCtl) (hwords : u.words = t.words)
    (hmem : u.mem = t.mem) : Effect i s u where
  cfg := hcfg.trans h.cfg
  regs r := by simpa only [getReg, hregs] using h.regs r
  accKept hi := ⟨hacc.trans (h.accKept hi).1, hfirst.trans (h.accKept hi).2⟩
  accBounded hs := hacc ▸ h.accBounded hs
  words hs := hwords ▸ h.words hs
  memory hs := hmem ▸ h.memory hs

theorem Effect.then_setResult (h : Effect i s t) (res : Result) : Effect i s (setResult t res) :=
  h.congr rfl rfl rfl rfl rfl rfl

theorem Effect.then_setLinkUp (h : Effect i s t) (up : Bool) : Effect i s (setLinkUp t up) :=
  h.congr rfl rfl rfl rfl rfl rfl

theorem Effect.then_raise (h : Effect i s t) (x : LogRecord) : Effect i s (raise t x) :=
  h.congr rfl rfl rfl rfl rfl rfl

theorem Effect.then_evaluate (h : Effect i s t) : Effect i s (evaluate t) := by
  apply h.congr <;> simp

theorem Effect.then_dmaRead (h : Effect i s t) (a : Addr) (n : Nat) : Effect i s (dmaRead t a n).2 := by
  apply h.congr <;> simp

theorem Effect.then_miiOp (h : Effect i s t) (v : Word) : Effect i s (miiOp t v).2 := by
  apply h.congr <;> simp

theorem Effect.then_setReg (h : Effect i s t) {r : Reg} {v : Word}
    (hv : Written s.cfg i r (getReg s r) v) : Effect i s (setReg t r v) :=
  { h with
    regs := fun q => by
      rw [getReg_setReg]
      split
      · next hq => exact hq ▸ hv
      · exact h.regs q }

theorem Effect.then_setWord (h : Effect i s t) {a : Nat} (ha : a < 2 ^ 32) (v : Word) :
    Effect i s (setWord t a v) :=
  { h with words := fun hs => sparseWf_set _ _ _ _ _ ha (h.words hs) }

theorem Effect.then_dmaWrite (h : Effect i s t) (a : Addr) (v : List Byte) :
    Effect i s (dmaWrite t a v) where
  cfg := by simpa using h.cfg
  regs r := by simpa using h.regs r
  accKept := by simpa [AccumulatorKept] using h.accKept
  accBounded := by simpa using h.accBounded
  words := by simpa using h.words
  memory hs := by simpa using wf_writeBytes _ a v (h.memory hs)

/-- The frame in assembly replaced by one that fits (R56). -/
theorem Effect.then_accumulate (h : Effect i s t) (hi : movesTxCursor i = true) {u : State}
    (hcfg : u.cfg = t.cfg) (hregs : ∀ r, getReg u r = getReg t r) (hwords : u.words = t.words)
    (hmem : u.mem = t.mem)
    (hacc : t.txAcc.length ≤ s.cfg.txAccMax → u.txAcc.length ≤ s.cfg.txAccMax) : Effect i s u where
  cfg := hcfg.trans h.cfg
  regs r := hregs r ▸ h.regs r
  accKept hk := absurd (hi.symm.trans hk) (by decide)
  accBounded hs := hacc (h.accBounded hs)
  words hs := hwords ▸ h.words hs
  memory hs := hmem ▸ h.memory hs

/-! ### The interrupt aggregator -/

/-- GREG_STAT stored, with no bit that may not appear. -/
theorem Effect.then_setStat (h : Effect i s t) {v : Word}
    (hv : BitsWithin v (getReg t .gregStat) (reportable s.cfg i)) :
    Effect i s (setReg t .gregStat v) :=
  h.then_setReg ((h.regs .gregStat).report hv)

theorem Effect.then_acknowledge (h : Effect i s t) (v : Word) : Effect i s (acknowledge t v) :=
  (h.then_setStat (.and _ _ _)).then_evaluate

theorem Effect.then_clearLatched (h : Effect i s t) : Effect i s (clearLatched t) :=
  (h.then_setStat (.and _ _ _)).then_evaluate

theorem Effect.then_setStatus (h : Effect i s t) {bits : Word} {on : Bool}
    (hbits : on = true → BitsWithin bits 0#32 (reportable s.cfg i)) :
    Effect i s (setStatus t bits on) := by
  refine (h.then_setStat ?_).then_evaluate
  cases on with
  | false => exact .and _ _ _
  | true => exact (hbits rfl).or_of_within _

theorem Effect.then_cascade (h : Effect i s t) : Effect i s (cascade t) := by
  have appears {bits : Word} (hbits : bits ∈ reportedMasks s.cfg) := within_reportable hbits i
  exact ((h.then_setStatus fun _ => appears (by simp [reportedMasks, h.cfg])).then_setStatus
    fun _ => appears (by simp [reportedMasks, h.cfg])).then_setStatus
    fun _ => appears (by simp [reportedMasks, h.cfg])

/-- A clearing read that comes first (R164 to R166). -/
theorem effect_clearSubStatus (s : State) {r : Reg} (keep aggregate : Word) (hr : r ≠ .gregStat)
    (hclears : r ∈ s.cfg.clearOnRead) : Effect i s (clearSubStatus s r keep aggregate) :=
  ((Effect.refl i s).then_setReg (.cleared _ keep hclears hr)).then_setStatus (by simp)

/-! ### The reset procedures (R341 to R343) -/

theorem Effect.then_resetRx (h : Effect i s t) (hi : movesRxCursor i = true) : Effect i s (resetRx t) := by
  have written (r : Reg) (hr : r ∈ rxResetRegs) :
      Written s.cfg i r (getReg s r) (resetReg t.cfg r) := h.cfg ▸ .rxReset _ hr hi
  exact (((h.then_setReg (written .rxdmaFsz (by decide))).then_setReg
    (written .rxdmaDone (by decide))).then_setReg
    (written .rxdmaKick (by decide))).then_setReg (written .rxdmaCfg (by decide))

theorem Effect.then_resetTx (h : Effect i s t) (hi : movesTxCursor i = true) : Effect i s (resetTx t) := by
  have written (r : Reg) (hr : r ∈ txResetRegs) :
      Written s.cfg i r (getReg s r) (resetReg t.cfg r) := h.cfg ▸ .txReset _ hr hi
  have hregs := (((h.then_setReg (written .txdmaFsz (by decide))).then_setReg
    (written .txdmaTxdone (by decide))).then_setReg
    (written .txdmaKick (by decide))).then_setReg (written .txdmaCfg (by decide))
  exact hregs.then_accumulate hi rfl (fun _ => rfl) rfl rfl fun _ => Nat.zero_le _

theorem Effect.then_loadStationAddress (h : Effect i s t) : Effect i s (loadStationAddress t) := by
  have written (r : Reg) (hr : r ∈ globalResetRegs) :
      Written s.cfg i r (getReg s r) (resetReg t.cfg r) := h.cfg ▸ .globalReset _ hr
  exact ((h.then_setReg (written .macAddr0 (by decide))).then_setReg
    (written .macAddr1 (by decide))).then_setReg (written .macAddr2 (by decide))

theorem Effect.then_resetAll (h : Effect i s t) (htx : movesTxCursor i = true)
    (hrx : movesRxCursor i = true) (isBusReset : Bool) : Effect i s (resetAll t isBusReset) := by
  have hcfg : (resetTx (resetRx t)).cfg = s.cfg := by simpa using h.cfg
  have written (r : Reg) (hr : r ∈ globalResetRegs) :
      Written s.cfg i r (getReg s r) (resetReg t.cfg r) := h.cfg ▸ .globalReset _ hr
  have hstat := (((h.then_resetRx hrx).then_resetTx htx).then_setReg
    (written .gregImask (by decide))).then_setStat (v := 0#32) (fun k hk => by simp at hk)
  have hswrst (v : Word) := hstat.then_setReg (r := .gregSwrst) (v := v) (.answered _ _ (by decide))
  cases isBusReset with
  | false => exact ((hswrst _).then_setReg (written .mifCfg (by decide))).then_evaluate
  | true =>
    exact ((hswrst _).then_loadStationAddress.then_setReg (written .mifCfg (by decide))).then_evaluate

theorem Effect.then_softReset (h : Effect i s t) (htx : movesTxCursor i = true)
    (hrx : movesRxCursor i = true) (v : Word) : Effect i s (softReset t v) := by
  unfold softReset
  split
  · exact h.then_resetAll htx hrx false
  · exact h.then_resetRx hrx
  · exact h.then_resetTx htx
  · exact h

/-! ### The transmit engine -/

theorem within_completionBits (cfg : Cfg) (i : Instr) (ctl : DWord) :
    BitsWithin (completionBits cfg ctl) 0#32 (reportable cfg i) := by
  have hdone := within_reportable (cfg := cfg) (bits := cfg.statTxDone) (by simp [reportedMasks]) i
  unfold completionBits
  split
  · exact hdone.or (within_reportable (by simp [reportedMasks]) i)
  · exact hdone

/-- One turn of the loop, on a ring of some size. -/
theorem Effect.then_txSlot (h : Effect i s t) (hi : movesTxCursor i = true) (config comp : Word)
    (ctl : DWord) (buf : Addr) : Effect i s (txSlot t (ringMask s.cfg config) comp ctl buf) := by
  have hframe : Effect i s (processTxDesc t ctl buf) :=
    h.then_accumulate hi (by simp) (by simp) (by simp) (by simp)
      (by rw [← h.cfg]; exact length_processTxDesc t ctl buf)
  have hstatus := hframe.then_setStatus (on := true) fun _ => within_completionBits s.cfg i ctl
  rw [← h.cfg] at hstatus
  exact hstatus.then_setReg (.txAdvanced _ _ _ hi)

theorem Effect.then_kick (h : Effect i s t) (hi : movesTxCursor i = true) : Effect i s (kick t) := by
  unfold kick
  split
  · refine (txLoop_invariant (Effect i s) _ _ _ _ _ (fun comp u hu => ?_) t h).then_setStatus fun _ => ?_
    · rw [txMask, h.cfg]
      exact (hu.then_dmaRead _ _).then_txSlot hi _ comp _ _
    · exact within_reportable (by simp [reportedMasks, h.cfg]) i
  · exact h.then_raise _

/-! ### The receive engine -/

theorem within_rxCompletionBits (s : State) (i : Instr) :
    BitsWithin (rxCompletionBits s) 0#32 (reportable s.cfg i) := by
  have hdone := within_reportable (cfg := s.cfg) (bits := s.cfg.statRxDone) (by simp [reportedMasks]) i
  unfold rxCompletionBits
  split
  · exact hdone.or (within_reportable (by simp [reportedMasks]) i)
  · exact hdone

theorem Effect.then_rxWriteBack (h : Effect i s t) (hi : movesRxCursor i = true) (status buf : DWord) :
    Effect i s (rxWriteBack t status buf) := by
  have hdone := (h.then_dmaWrite (rxSlotAddr t) (descBytesOf t.cfg.descOrder status buf)).then_setReg
    (.rxAdvanced _ (getReg t .rxdmaCfg) (rxCursor t) hi)
  rw [← h.cfg] at hdone
  exact hdone.then_setStatus fun _ => hdone.cfg ▸ within_rxCompletionBits _ i

theorem Effect.then_rxStore (h : Effect i s t) (hi : movesRxCursor i = true) (g : List Byte)
    (m : AddrMatch) : Effect i s (rxStore t g m) :=
  ((h.then_dmaRead _ _).then_dmaWrite _ _).then_rxWriteBack hi _ _

theorem Effect.then_deliver (h : Effect i s t) (hi : movesRxCursor i = true) (f : List Byte) :
    Effect i s (deliver t f).2 := by
  simp only [deliver]
  split_ifs
  · exact h.then_raise _
  · exact h.then_raise _
  · exact h.then_raise _
  · exact h.then_rxStore hi _ _
  · exact h.then_raise _

/-! ### Bus accesses -/

theorem effect_busReadReg (i : Instr) (s : State) (r : Reg) : Effect i s (busReadReg s r).2 := by
  unfold busReadReg
  split
  · exact (Effect.refl i s).then_clearLatched
  · exact .refl i s
  · next hstat _ => exact afterRead_cases r (.refl i s) (effect_clearSubStatus s _ _ hstat)

theorem effect_unlessReadOnly {r : Reg} (h : r ∉ s.cfg.roSet → Effect i s t) :
    Effect i s (unlessReadOnly s r t) :=
  unlessReadOnly_cases r t (.refl i s) h

theorem effect_busWriteReg (s : State) (r : Reg) (v : Word) :
    Effect (wrInstr v r) s (busWriteReg s r v) := by
  refine effect_unlessReadOnly fun hro => ?_
  split
  · exact (Effect.refl _ s).then_acknowledge v
  · next hack =>
    have hstore := (Effect.refl (wrInstr v r) s).then_setReg (.stored _ rfl hro hack)
    dsimp only
    unfold afterStore
    split
    · exact hstore.then_evaluate
    · exact hstore.then_softReset rfl rfl _
    · exact hstore.then_kick rfl
    · exact hstore.then_cascade
    · exact hstore.then_cascade
    · exact hstore.then_cascade
    · exact (hstore.then_miiOp _).then_setReg (.answered _ _ (by decide))
    · exact hstore

/-- The store of a word in GREG_SWRST. -/
theorem effect_storeSwrst (i : Instr) (s : State) (v : Word) : Effect i s (storeSwrst s v) :=
  (Effect.refl i s).then_setReg (.answered _ _ (by decide))

theorem Effect.then_storeFrame (h : Effect i s t) (v res : Word) : Effect i s (storeFrame t v res) :=
  (h.then_setReg (.answered _ v (by decide))).then_setReg (.answered _ _ (by decide))

/-! ### Every row -/

/-- What a row leaves is an effect of that row. -/
theorem exec_returning (i : Instr) (s : State) : ∃ t res, exec i s = returning t res ∧ Effect i s t := by
  cases row i with
  | readReg r => exact ⟨_, _, exec_rdInstr r s, effect_busReadReg _ s r⟩
  | writeReg r v => exact ⟨_, _, exec_wrInstr r v s, effect_busWriteReg s r v⟩
  | wrPlainWord off v | wrWolWord off v => exact ⟨_, _, rfl, (Effect.refl _ s).then_setWord off.isLt v⟩
  | rdUnmapped off | wrUnmapped off v => exact ⟨_, _, rfl, (Effect.refl _ s).then_raise _⟩
  | swrstAll v =>
    exact ⟨_, _, rfl, effect_unlessReadOnly fun _ => (effect_storeSwrst _ s v).then_resetAll rfl rfl _⟩
  | swrstRx v =>
    exact ⟨_, _, rfl, effect_unlessReadOnly fun _ => (effect_storeSwrst _ s v).then_resetRx rfl⟩
  | swrstTx v =>
    exact ⟨_, _, rfl, effect_unlessReadOnly fun _ => (effect_storeSwrst _ s v).then_resetTx rfl⟩
  | swrstNone v => exact ⟨_, _, rfl, effect_unlessReadOnly fun _ => effect_storeSwrst _ s v⟩
  | mifWrite v | mifRead v | phyreg0Control v | phyreg1Status v | phyreg2IdentifierHigh v
  | phyreg3IdentifierLow v | phyreg4Advertisement v | phyreg5LinkPartner v | phyreg24Auxiliary v
  | phyregOther v =>
    exact ⟨_, _, rfl, effect_unlessReadOnly fun _ => (Effect.refl _ s).then_storeFrame _ _⟩
  | mifBadOp0 v | mifBadOp3 v | mifBadTag0 v | mifBadTag2 v | mifBadTag3 v =>
    exact ⟨_, _, rfl, effect_unlessReadOnly fun _ => ((Effect.refl _ s).then_raise _).then_storeFrame _ _⟩
  | txd ctl buf => exact ⟨_, _, rfl, (Effect.refl _ s).then_txSlot rfl _ _ _ _⟩
  | rxdStatus status buf => exact ⟨_, _, rfl, (Effect.refl _ s).then_rxWriteBack rfl _ _⟩
  | deliver frame => exact ⟨_, _, rfl, (Effect.refl _ s).then_deliver rfl frame⟩
  | setLink up => exact ⟨_, _, rfl, (Effect.refl _ s).then_setLinkUp up⟩
  | kick => exact ⟨_, _, rfl, (Effect.refl _ s).then_kick rfl⟩
  | evaluate => exact ⟨_, _, rfl, (Effect.refl _ s).then_evaluate⟩
  | cascade => exact ⟨_, _, rfl, (Effect.refl _ s).then_cascade⟩
  | ack v => exact ⟨_, _, rfl, (Effect.refl _ s).then_acknowledge v⟩
  | setStatus bits on =>
    refine ⟨_, _, rfl, (Effect.refl _ s).then_setStatus fun _ k hk => ?_⟩
    simp [reportable, reportedMasks, requestedStatus, hk]
  | miiOp v => exact ⟨_, _, rfl, (Effect.refl _ s).then_miiOp v⟩
  | resetRx => exact ⟨_, _, rfl, (Effect.refl _ s).then_resetRx rfl⟩
  | resetTx => exact ⟨_, _, rfl, (Effect.refl _ s).then_resetTx rfl⟩
  | busReset | resetAll isBusReset => exact ⟨_, _, rfl, (Effect.refl _ s).then_resetAll rfl rfl _⟩
  | rdPlainWord off | rdWolWord off | rxdPosted status buf | canAccept | classify dst crc =>
    exact ⟨_, _, rfl, .refl _ s⟩

theorem exec_effect {i : Instr} {s t : State} (h : exec i s = .next t) : Effect i s t := by
  obtain ⟨u, res, hu, heffect⟩ := exec_returning i s
  cases hu.symm.trans h
  exact heffect.then_setResult res

end

end Sys2Proof.Effects
end

section
/-! The line (R60, R199): every row leaves it at the level its registers call for. An operation that writes
GREG_STAT or GREG_IMASK ends in `Evaluate()`; every other one leaves both words and the line alone. -/
namespace Sys2Proof.Line

open Sys2Proof.Machine Sys2Proof.Laws Sys2Proof.Rows

variable {s : State}

theorem lineSettled_evaluate (s : State) : LineSettled (evaluate s) := by simp [LineSettled]

theorem lineSettled_setStatus (s : State) (bits : Word) (on : Bool) :
    LineSettled (setStatus s bits on) := lineSettled_evaluate _

theorem lineSettled_cascade (s : State) : LineSettled (cascade s) := lineSettled_setStatus _ _ _

theorem lineSettled_acknowledge (s : State) (v : Word) : LineSettled (acknowledge s v) :=
  lineSettled_evaluate _

theorem lineSettled_setReg (h : LineSettled s) {r : Reg} (v : Word) (hstat : r ≠ .gregStat)
    (himask : r ≠ .gregImask) : LineSettled (setReg s r v) := by
  simpa [LineSettled, hstat, himask] using h

theorem lineSettled_afterRead (h : LineSettled s) (r : Reg) : LineSettled (afterRead s r) :=
  afterRead_cases r h fun _ => lineSettled_setStatus _ _ _

theorem lineSettled_busReadReg (h : LineSettled s) (r : Reg) : LineSettled (busReadReg s r).2 := by
  unfold busReadReg
  split
  · exact lineSettled_evaluate _
  · exact h
  · exact lineSettled_afterRead h _

theorem lineSettled_resetRx (h : LineSettled s) : LineSettled (resetRx s) := by
  simpa [LineSettled] using h

theorem lineSettled_resetTx (h : LineSettled s) : LineSettled (resetTx s) := by
  simpa [LineSettled] using h

theorem lineSettled_resetAll (s : State) (b : Bool) : LineSettled (resetAll s b) :=
  lineSettled_evaluate _

theorem lineSettled_softReset (h : LineSettled s) (v : Word) : LineSettled (softReset s v) := by
  unfold softReset
  split
  · exact lineSettled_resetAll s false
  · exact lineSettled_resetRx h
  · exact lineSettled_resetTx h
  · exact h

theorem lineSettled_txSlot (s : State) (mask comp : Word) (ctl : DWord) (buf : Addr) :
    LineSettled (txSlot s mask comp ctl buf) :=
  lineSettled_setReg (lineSettled_setStatus _ _ _) _ (by decide) (by decide)

theorem lineSettled_kick (h : LineSettled s) : LineSettled (kick s) := by
  unfold kick
  split
  · exact lineSettled_setStatus _ _ _
  · exact h

theorem lineSettled_deliver (h : LineSettled s) (f : List Byte) : LineSettled (deliver s f).2 := by
  simp only [deliver]
  split_ifs
  · exact h
  · exact h
  · exact h
  · exact lineSettled_setStatus _ _ _
  · exact h

theorem lineSettled_miiOp (h : LineSettled s) (v : Word) : LineSettled (miiOp s v).2 := by
  simpa [LineSettled] using h

theorem lineSettled_storeFrame (h : LineSettled s) (v res : Word) : LineSettled (storeFrame s v res) := by
  simpa [LineSettled] using h

theorem lineSettled_unlessReadOnly (h : LineSettled s) (r : Reg) {t : State} (ht : LineSettled t) :
    LineSettled (unlessReadOnly s r t) :=
  unlessReadOnly_cases r t h fun _ => ht

/-- The effect after the store of a register other than GREG_STAT (R141). -/
theorem lineSettled_afterStore (h : LineSettled s) {r : Reg} (v : Word) (hstat : r ≠ .gregStat) :
    LineSettled (afterStore (setReg s r v) r v) := by
  have hstore := lineSettled_setReg h v hstat
  unfold afterStore
  split
  · exact lineSettled_evaluate _
  · exact lineSettled_softReset (hstore (by decide)) v
  · exact lineSettled_kick (hstore (by decide))
  · exact lineSettled_cascade _
  · exact lineSettled_cascade _
  · exact lineSettled_cascade _
  · exact lineSettled_setReg (lineSettled_miiOp (hstore (by decide)) v) _ hstat (by decide)
  · next himask _ _ _ _ _ _ => exact hstore himask

theorem lineSettled_busWriteReg (h : LineSettled s) (hro : .gregStat ∈ s.cfg.roSet) (r : Reg) (v : Word) :
    LineSettled (busWriteReg s r v) := by
  refine unlessReadOnly_cases r _ h fun hr => ?_
  have hstat : r ≠ .gregStat := fun hr' => hr (hr' ▸ hro)
  split
  · exact lineSettled_acknowledge s v
  · exact lineSettled_afterStore h _ hstat

/-- Where the bus does not write GREG_STAT, every row leaves the line settled. -/
theorem exec_returning_settled (hro : .gregStat ∈ s.cfg.roSet) (h : LineSettled s) (i : Instr) :
    ∃ t res, exec i s = returning t res ∧ LineSettled t := by
  have hswrst (v : Word) : LineSettled (storeSwrst s v) := lineSettled_setReg h v (by decide) (by decide)
  cases row i with
  | readReg r => exact ⟨_, _, exec_rdInstr r s, lineSettled_busReadReg h r⟩
  | writeReg r v => exact ⟨_, _, exec_wrInstr r v s, lineSettled_busWriteReg h hro r v⟩
  | swrstAll v => exact ⟨_, _, rfl, lineSettled_unlessReadOnly h _ (lineSettled_resetAll _ _)⟩
  | swrstRx v => exact ⟨_, _, rfl, lineSettled_unlessReadOnly h _ (lineSettled_resetRx (hswrst v))⟩
  | swrstTx v => exact ⟨_, _, rfl, lineSettled_unlessReadOnly h _ (lineSettled_resetTx (hswrst v))⟩
  | swrstNone v => exact ⟨_, _, rfl, lineSettled_unlessReadOnly h _ (hswrst v)⟩
  | mifWrite v | mifRead v | mifBadOp0 v | mifBadOp3 v | mifBadTag0 v | mifBadTag2 v | mifBadTag3 v
  | phyreg0Control v | phyreg1Status v | phyreg2IdentifierHigh v | phyreg3IdentifierLow v
  | phyreg4Advertisement v | phyreg5LinkPartner v | phyreg24Auxiliary v | phyregOther v =>
    exact ⟨_, _, rfl, lineSettled_unlessReadOnly h _ (lineSettled_storeFrame (by exact h) _ _)⟩
  | txd ctl buf => exact ⟨_, _, rfl, lineSettled_txSlot _ _ _ _ _⟩
  | rxdStatus status buf => exact ⟨_, _, rfl, lineSettled_setStatus _ _ _⟩
  | deliver frame => exact ⟨_, _, rfl, lineSettled_deliver h frame⟩
  | kick => exact ⟨_, _, rfl, lineSettled_kick h⟩
  | evaluate => exact ⟨_, _, rfl, lineSettled_evaluate s⟩
  | cascade => exact ⟨_, _, rfl, lineSettled_cascade s⟩
  | ack v => exact ⟨_, _, rfl, lineSettled_acknowledge s v⟩
  | setStatus bits on => exact ⟨_, _, rfl, lineSettled_setStatus s bits on⟩
  | miiOp v => exact ⟨_, _, rfl, lineSettled_miiOp h v⟩
  | resetRx => exact ⟨_, _, rfl, lineSettled_resetRx h⟩
  | resetTx => exact ⟨_, _, rfl, lineSettled_resetTx h⟩
  | busReset | resetAll isBusReset => exact ⟨_, _, rfl, lineSettled_resetAll s _⟩
  | rdPlainWord off | wrPlainWord off v | rdWolWord off | wrWolWord off v | rdUnmapped off
  | wrUnmapped off v | rxdPosted status buf | canAccept | setLink up | classify dst crc =>
    exact ⟨_, _, rfl, h⟩

theorem exec_lineSettled {i : Instr} {t : State} (hro : .gregStat ∈ s.cfg.roSet) (h : LineSettled s)
    (ht : exec i s = .next t) : LineSettled t := by
  obtain ⟨u, res, hu, hsettled⟩ := exec_returning_settled hro h i
  cases hu.symm.trans ht
  exact hsettled

end Sys2Proof.Line
end

section
/-! The invariants (R67, R199) and the rules about what never moves (R36, R37, R41, R45), read off the
effects of the rows. -/
namespace Sys2Proof.Invariants

open Sys2Proof.Machine Sys2Proof.Laws Sys2Proof.Claims Sys2Proof.Rows Sys2Proof.Effects Sys2Proof.Line

variable {cfg : Cfg} {i : Instr} {s t : State} {old new : Word}

/-! ### Status bits (R41, R200) -/

theorem and_eq_zero_iff (x y : Word) :
    x &&& y = 0#32 ↔ ∀ k, x.getLsbD k = true → y.getLsbD k = false := by
  constructor
  · intro h k hx
    simpa [hx] using congrArg (BitVec.getLsbD · k) h
  · intro h
    refine BitVec.eq_of_getLsbD_eq fun k _ => ?_
    have := h k
    rw [BitVec.getLsbD_and, BitVec.getLsbD_zero]
    grind

/-- A mask that shares no bit with the old word and none with the bits that may appear shares none with
the new word. -/
theorem and_eq_zero_of_within {more m : Word} (h : BitsWithin new old more) (hold : old &&& m = 0#32)
    (hmore : more &&& m = 0#32) : new &&& m = 0#32 := by
  rw [and_eq_zero_iff] at *
  exact fun k hk => (h k hk).elim (hold k) (hmore k)

theorem or_and_eq_zero {a b m : Word} (ha : a &&& m = 0#32) (hb : b &&& m = 0#32) :
    (a ||| b) &&& m = 0#32 :=
  and_eq_zero_of_within ((BitsWithin.refl a b).or (fun _ => .inr)) ha hb

theorem reportable_and_eq_zero {m : Word} (h : ∀ b ∈ reportedMasks cfg, b &&& m = 0#32)
    (hreq : requestedStatus i &&& m = 0#32) : reportable cfg i &&& m = 0#32 := by
  unfold reportable
  revert h
  induction reportedMasks cfg with
  | nil => exact fun _ => hreq
  | cons b bs ih =>
    intro h
    exact or_and_eq_zero (h b (by simp)) (ih fun x hx => h x (by simp [hx]))

theorem requestedStatus_of_ne (h : ∀ bits on, i ≠ .setStatus bits on) : requestedStatus i = 0#32 := by
  unfold requestedStatus
  split
  · exact absurd rfl (h _ _)
  · rfl

/-- The masks of GREG_STAT are disjoint (R10): no reported bit is the receive tag error, none lies in the
completion-counter field. -/
theorem reportedMasks_disjoint (h : cfg.wellFormed = true) :
    (∀ b ∈ reportedMasks cfg, b &&& cfg.statRxTagErr = 0#32) ∧
      ∀ b ∈ reportedMasks cfg, b &&& cfg.statTxnr = 0#32 := by
  simp only [Cfg.wellFormed, Cfg.masksDisjoint, Bool.and_eq_true] at h
  obtain ⟨⟨⟨-, ⟨⟨⟨⟨⟨⟨⟨hstat, -⟩, -⟩, -⟩, -⟩, -⟩, -⟩, -⟩⟩, -⟩, -⟩ := h
  simp only [Cfg.statMasks, disjointMasks, Bool.and_eq_true, List.all_cons, beq_iff_eq] at hstat
  simp_all [reportedMasks, BitVec.and_comm]

theorem reportedMasks_named : ∀ b ∈ reportedMasks cfg, b &&& ~~~ cfg.namedStatus = 0#32 := by
  intro b hb
  rw [and_eq_zero_iff]
  intro k hk
  simp only [reportedMasks, List.mem_cons, List.not_mem_nil, or_false] at hb
  rcases hb with rfl | rfl | rfl | rfl | rfl | rfl | rfl | rfl <;> simp [Cfg.namedStatus, hk]

theorem requestedStatus_named (h : i.wellFormed cfg = true) :
    requestedStatus i &&& ~~~ cfg.namedStatus = 0#32 := by
  unfold requestedStatus
  split
  · simpa [Instr.wellFormed] using h
  · simp

/-- No bit of the mask appears that neither an operation reports nor the instruction requests. -/
theorem appear_and_eq_zero (h : Effect i s t) (hro : .gregStat ∈ s.cfg.roSet) {m : Word}
    (hrep : ∀ b ∈ reportedMasks s.cfg, b &&& m = 0#32) (hreq : requestedStatus i &&& m = 0#32) :
    getReg t .gregStat &&& ~~~ getReg s .gregStat &&& m = 0#32 := by
  rw [BitVec.and_assoc]
  refine and_eq_zero_of_within ((h.regs .gregStat).appear hro) ?_ ?_
  · simp [← BitVec.and_assoc]
  · rw [BitVec.and_comm (~~~ _), ← BitVec.and_assoc, reportable_and_eq_zero hrep hreq, BitVec.zero_and]

/-- Settles O32: the bits that appear are reported or requested. -/
theorem onlyNamedStatusBitsAppear : Obligations.OnlyNamedStatusBitsAppear := by
  intro i s t hwf hro hi ht
  have heffect := exec_effect ht
  refine ⟨appear_and_eq_zero heffect hro reportedMasks_named (requestedStatus_named hi), fun hne => ?_⟩
  refine appear_and_eq_zero heffect hro (reportedMasks_disjoint hwf).1 ?_
  rw [requestedStatus_of_ne hne, BitVec.zero_and]

/-! ### Ring cursors (R17, R39) -/

theorem ringExp_le (cfg : Cfg) (c : Word) : ringExp cfg c ≤ 2 ^ cfg.ringszBits - 1 := by
  rw [ringExp, BitVec.toNat_and, BitVec.toNat_ofNat]
  exact Nat.and_le_right.trans (Nat.mod_le _ _)

theorem toNat_ringMask_le (cfg : Cfg) (c : Word) : (ringMask cfg c).toNat ≤ largestMask cfg := by
  rw [ringMask, BitVec.toNat_ofNat]
  refine (Nat.mod_le _ _).trans (Nat.sub_le_sub_right ?_ 1)
  exact Nat.mul_le_mul_left _ (Nat.pow_le_pow_right (by decide) (ringExp_le cfg c))

theorem toNat_advance_le (cfg : Cfg) (c slot : Word) :
    (advance (ringMask cfg c) slot).toNat ≤ largestMask cfg := by
  rw [advance, BitVec.toNat_and]
  exact Nat.and_le_right.trans (toNat_ringMask_le cfg c)

/-! ### Registers that no operation writes -/

/-- The registers that an instruction may write besides by a bus store or a clearing read. -/
def operationRegs (i : Instr) : List Reg :=
  .gregStat :: answerRegs ++ globalResetRegs ++ (if movesTxCursor i then txResetRegs else []) ++
    (if movesRxCursor i then rxResetRegs else [])

/-- Every other register is changed by a clearing read or by its own bus write only. -/
theorem written_of_not_operation {r : Reg} (h : Written cfg i r old new) (hop : r ∉ operationRegs i) :
    new = old ∨ (r ∈ cfg.clearOnRead ∧ ∃ keep, new = old &&& keep) ∨
      ((r ≠ .gregIack ∧ r ∉ cfg.roSet) ∧ ∃ v, new = maskWrite cfg r v) := by
  cases h with
  | kept => exact .inl rfl
  | stored _ _ writable notAck => exact .inr (.inr ⟨⟨notAck, writable⟩, _, rfl⟩)
  | cleared _ keep clears _ => exact .inr (.inl ⟨clears, keep, rfl⟩)
  | reported => exact absurd (by simp [operationRegs]) hop
  | txAdvanced _ _ _ moves | rxAdvanced _ _ _ moves =>
    exact absurd (by simp [operationRegs, moves, txResetRegs, rxResetRegs]) hop
  | txReset _ named moves | rxReset _ named moves =>
    exact absurd (by simp [operationRegs, named, moves]) hop
  | globalReset _ named | answered _ _ named => exact absurd (by simp [operationRegs, named]) hop

theorem written_of_untouched {r : Reg} (h : Written cfg i r old new) (hop : r ∉ operationRegs i)
    (hro : r = .gregIack ∨ r ∈ cfg.roSet) :
    new = old ∨ r ∈ cfg.clearOnRead ∧ ∃ keep, new = old &&& keep :=
  (written_of_not_operation h hop).imp_right fun h' =>
    h'.resolve_right fun ⟨⟨hack, hstore⟩, _⟩ => hro.elim hack hstore

theorem written_eq {r : Reg} (h : Written cfg i r old new) (hop : r ∉ operationRegs i)
    (hro : r = .gregIack ∨ r ∈ cfg.roSet) (hclear : r ∉ cfg.clearOnRead) : new = old :=
  (written_of_untouched h hop hro).resolve_right fun hc => hclear hc.1

/-- The registers that some instruction may write so. -/
def anyOperationRegs : List Reg :=
  .gregStat :: answerRegs ++ globalResetRegs ++ txResetRegs ++ rxResetRegs

theorem operationRegs_subset (i : Instr) : operationRegs i ⊆ anyOperationRegs := by
  unfold operationRegs
  cases movesTxCursor i <;> cases movesRxCursor i <;> decide

theorem not_mem_operationRegs {r : Reg} (i : Instr) (h : r ∉ anyOperationRegs) :
    r ∉ operationRegs i := fun hr => h (operationRegs_subset i hr)

theorem txdone_not_mem_operationRegs (h : movesTxCursor i = false) : .txdmaTxdone ∉ operationRegs i := by
  unfold operationRegs
  cases movesRxCursor i <;> simp [h] <;> decide

theorem rxdone_not_mem_operationRegs (h : movesRxCursor i = false) : .rxdmaDone ∉ operationRegs i := by
  unfold operationRegs
  cases movesTxCursor i <;> simp [h] <;> decide

/-- Settles O58: without a row of its engine a cursor is a register no operation writes. -/
theorem enginesOwnTheirCursors : Obligations.EnginesOwnTheirCursors := by
  intro i s t ht
  have heffect := exec_effect ht
  refine ⟨fun hro hclear hi => ?_, fun hro hclear hi => ?_, heffect.accKept⟩
  · exact written_eq (heffect.regs _) (txdone_not_mem_operationRegs hi) (.inr hro) hclear
  · exact written_eq (heffect.regs _) (rxdone_not_mem_operationRegs hi) (.inr hro) hclear

/-! ### What a step runs (R22, R23) -/

theorem requestedStatus_readAt (off : Word) (p : Place) : requestedStatus (readAt off p) = 0#32 := by
  cases p with
  | named r => cases r <;> rfl
  | wol | plain | unmapped => rfl

theorem requestedStatus_writeAt (off v : Word) (p : Place) :
    requestedStatus (writeAt off v p) = 0#32 := by
  cases p with
  | named r => cases r <;> rfl
  | wol | plain | unmapped => rfl

theorem requestedStatus_swrstInstr (cfg : Cfg) (v : Word) :
    requestedStatus (swrstInstr cfg v) = 0#32 := by
  unfold swrstInstr
  split <;> rfl

theorem requestedStatus_mifInstr (cfg : Cfg) (v : Word) : requestedStatus (mifInstr cfg v) = 0#32 := by
  unfold mifInstr
  repeat' split
  all_goals rfl

theorem requestedStatus_phyInstr (cfg : Cfg) (v : Word) : requestedStatus (phyInstr cfg v) = 0#32 := by
  unfold phyInstr
  repeat' split
  all_goals rfl

theorem decodeWord_ok {bytes : List Byte} {k : Word → Instr} (h : decodeWord bytes k = .ok i) :
    ∃ v, i = k v := by
  unfold decodeWord at h
  split at h
  · exact ⟨_, (Except.ok.inj h).symm⟩
  · cases h

theorem decodeNone_ok {bytes : List Byte} {j : Instr} (h : decodeNone bytes j = .ok i) : i = j := by
  unfold decodeNone at h
  split at h
  · exact (Except.ok.inj h).symm
  · cases h

/-- No port presents `SetStatus` (R190). -/
theorem requestedStatus_of_decode {p : Port} {bytes : List Byte}
    (h : decode cfg (.port p) bytes = .ok i) : requestedStatus i = 0#32 := by
  cases p with
  | busRead size =>
    simp only [decode, decodeBusRead] at h
    split_ifs at h
    cases h
    exact requestedStatus_readAt _ _
  | busWrite size =>
    simp only [decode, decodeBusWrite] at h
    split_ifs at h
    cases h
    exact requestedStatus_writeAt _ _ _
  | swrst =>
    obtain ⟨v, rfl⟩ := decodeWord_ok h
    exact requestedStatus_swrstInstr cfg v
  | mif =>
    obtain ⟨v, rfl⟩ := decodeWord_ok h
    exact requestedStatus_mifInstr cfg v
  | phySelect =>
    obtain ⟨v, rfl⟩ := decodeWord_ok h
    exact requestedStatus_phyInstr cfg v
  | canAccept | busReset => rw [decodeNone_ok h]; rfl
  | deliver => cases h; rfl
  | setLink =>
    simp only [decode, decodeLink] at h
    split_ifs at h <;> cases h <;> rfl

/-- Every step is nothing, a store of the guest, or an instruction some port presents. -/
theorem step_cases (h : step s = .next t) :
    t = s ∨ (∃ rest a bytes, t = setMem (setRequests s rest) (writeBytes s.mem a bytes)) ∨
      ∃ i rest, requestedStatus i = 0#32 ∧ exec i (setRequests s rest) = .next t := by
  unfold step runNext at h
  split at h
  · cases h
    exact .inl rfl
  · cases h
    exact .inr (.inl ⟨_, _, _, rfl⟩)
  · split at h
    · next hd => exact .inr (.inr ⟨_, _, requestedStatus_of_decode hd, h⟩)
    · cases h

/-! ### The sub-status registers (R45) -/

theorem subStatusRegs_not_operation : ∀ r ∈ subStatusRegs, r ∉ anyOperationRegs := by decide

theorem exec_subStatusClear (hro : ∀ r ∈ subStatusRegs, r ∈ s.cfg.roSet) (hs : s.SubStatusClear)
    (ht : exec i s = .next t) : t.SubStatusClear := by
  intro r hr
  have hop := not_mem_operationRegs i (subStatusRegs_not_operation r hr)
  rcases written_of_untouched ((exec_effect ht).regs r) hop (.inr (hro r hr)) with h | ⟨-, keep, h⟩
  · rw [h, hs r hr]
  · rw [h, hs r hr, BitVec.zero_and]

theorem subStatusClear_reset : State.SubStatusClear State.reset := by
  intro r hr
  rw [PowerOn.getReg_reset]
  exact PowerOn.resetReg_of_not_mem _ (by revert r; decide)

/-- Settles O56: only a clearing read changes these registers, and it sets no bit. -/
theorem subStatusStaysClear : Obligations.SubStatusStaysClear := by
  refine ⟨subStatusClear_reset, fun s t hro hs ht => ?_⟩
  rcases step_cases ht with rfl | ⟨rest, a, bytes, rfl⟩ | ⟨i, rest, -, hexec⟩
  · exact hs
  · exact hs
  · exact exec_subStatusClear (s := setRequests s rest) hro hs hexec

/-! ### The invariants of R67 -/

theorem written_counterField (h : Written cfg i .gregStat old new) (hwf : cfg.wellFormed = true)
    (hro : .gregStat ∈ cfg.roSet) (hreq : requestedStatus i = 0#32) (hold : old &&& cfg.statTxnr = 0#32) :
    new &&& cfg.statTxnr = 0#32 :=
  and_eq_zero_of_within (h.appear hro) hold
    (reportable_and_eq_zero (reportedMasks_disjoint hwf).2 (by rw [hreq, BitVec.zero_and]))

/-- The strap bits of MIF_CFG stand as the configuration says (R55). -/
def Strapped (cfg : Cfg) (v : Word) : Prop := v &&& (cfg.mifCfgClear ||| cfg.mifCfgSet) = cfg.mifCfgSet

theorem strapped_maskWrite (cfg : Cfg) (v : Word) : Strapped cfg (maskWrite cfg .mifCfg v) := by
  refine BitVec.eq_of_getLsbD_eq fun k hk => ?_
  simp [maskWrite]
  grind

theorem written_strap (h : Written cfg i .mifCfg old new) (hclear : .mifCfg ∉ cfg.clearOnRead)
    (hreset : Strapped cfg cfg.resetMifCfg) (hold : Strapped cfg old) : Strapped cfg new := by
  cases h with
  | kept => exact hold
  | stored => exact strapped_maskWrite cfg _
  | cleared _ _ clears _ => exact absurd clears hclear
  | globalReset => exact hreset
  | txReset _ named _ | rxReset _ named _ | answered _ _ named => exact absurd named (by decide)

/-- A register stored under a mask has no bit outside it (R153, R172). -/
theorem written_narrow {r : Reg} {m : Word} (h : Written cfg i r old new) (hop : r ∉ operationRegs i)
    (hmask : ∀ v, maskWrite cfg r v = v &&& m) (hold : old &&& ~~~ m = 0#32) : new &&& ~~~ m = 0#32 := by
  rcases written_of_not_operation h hop with rfl | ⟨-, keep, rfl⟩ | ⟨-, v, rfl⟩
  · exact hold
  · exact and_eq_zero_of_within (.and _ keep 0#32) hold BitVec.zero_and
  · simp [hmask, BitVec.and_assoc]

/-- The cursors of the engines (R36, R37). -/
def cursorRegs : List Reg := [.txdmaTxdone, .rxdmaDone]

theorem resetReg_cursor (cfg : Cfg) : ∀ r ∈ cursorRegs, resetReg cfg r = 0#32 := by
  simp [cursorRegs, resetReg]

/-- A cursor is within the largest ring after every instruction (R67 (vii)). -/
theorem written_cursor {r : Reg} (h : Written cfg i r old new) (hr : r ∈ cursorRegs)
    (hro : r ∈ cfg.roSet) (hclear : r ∉ cfg.clearOnRead) (hold : old.toNat ≤ largestMask cfg) :
    new.toNat ≤ largestMask cfg := by
  cases h with
  | kept => exact hold
  | stored _ _ writable _ => exact absurd hro writable
  | cleared _ _ clears _ => exact absurd clears hclear
  | reported => exact absurd hr (by decide)
  | txAdvanced | rxAdvanced => exact toNat_advance_le _ _ _
  | txReset | rxReset | globalReset =>
    rw [resetReg_cursor cfg r hr]
    exact Nat.zero_le _
  | answered _ _ named =>
    have apart : ∀ q ∈ answerRegs, q ∉ cursorRegs := by decide
    exact absurd hr (apart r named)

theorem constantRegs_not_operation : ∀ r ∈ constantRegs, r ∉ anyOperationRegs := by decide

theorem constantRegs_access : ∀ r ∈ constantRegs,
    (r = .gregIack ∨ r ∈ readOnlyRegs) ∧ r ∉ subStatusRegs := by decide

/-- A register that neither the bus nor an engine changes stays 0 (R67 (iii)). -/
theorem exec_constantZero (h : s.Inv) (he : Effect i s t) : ∀ r ∈ constantRegs, getReg t r = 0#32 := by
  intro r hr
  obtain ⟨hro, hsub⟩ := constantRegs_access r hr
  rw [← h.constantZero r hr]
  exact written_eq (he.regs r) (not_mem_operationRegs i (constantRegs_not_operation r hr))
    (hro.imp_right (h.cfgAccess.1 r)) fun hc => hsub (h.cfgAccess.2 r hc)

/-- Every instruction but a `SetStatus` of other bits keeps the invariants. -/
theorem inv_exec (h : s.Inv) (hreq : requestedStatus i = 0#32) (ht : exec i s = .next t) : t.Inv := by
  have he := exec_effect ht
  have hcfg := he.cfg
  have hro := h.cfgAccess.1
  have hclear {r : Reg} (hr : r ∉ subStatusRegs) : r ∉ s.cfg.clearOnRead :=
    fun hc => hr (h.cfgAccess.2 r hc)
  exact {
    cfgWellFormed := hcfg ▸ h.cfgWellFormed
    cfgAccess := hcfg ▸ h.cfgAccess
    cfgStrap := hcfg ▸ h.cfgStrap
    accBounded := hcfg ▸ he.accBounded h.accBounded
    counterFieldClear := hcfg ▸ written_counterField (he.regs _) h.cfgWellFormed (hro _ (by decide)) hreq
      h.counterFieldClear
    constantZero := exec_constantZero h he
    strap := hcfg ▸ written_strap (he.regs _) (hclear (by decide)) h.cfgStrap h.strap
    irqLine := exec_lineSettled (hro _ (by decide)) h.irqLine ht
    pcieMaskNarrow := hcfg ▸ written_narrow (he.regs _) (not_mem_operationRegs i (by decide)) (fun _ => rfl)
      h.pcieMaskNarrow
    minFszNarrow := hcfg ▸ written_narrow (he.regs _) (not_mem_operationRegs i (by decide)) (fun _ => rfl)
      h.minFszNarrow
    txCursorBound := hcfg ▸ written_cursor (he.regs _) (by decide) (hro _ (by decide)) (hclear (by decide))
      h.txCursorBound
    rxCursorBound := hcfg ▸ written_cursor (he.regs _) (by decide) (hro _ (by decide)) (hclear (by decide))
      h.rxCursorBound
    memCanonical := he.memory h.memCanonical
    wordsCanonical := he.words h.wordsCanonical }

theorem inv_setRequests (h : s.Inv) (q : List Request) : (setRequests s q).Inv := { h with }

theorem inv_setMem (h : s.Inv) {m : Memory} (hm : Memory.wf m = true) : (setMem s m).Inv :=
  { h with memCanonical := hm }

/-- Settles O55: no port presents `SetStatus`, every other instruction and every store of the guest keeps
the invariants. -/
theorem stepKeepsInvariant : Obligations.StepKeepsInvariant := by
  intro s t hs ht
  rcases step_cases ht with rfl | ⟨rest, a, bytes, rfl⟩ | ⟨i, rest, hreq, hexec⟩
  · exact hs
  · exact inv_setMem (inv_setRequests hs rest) (wf_writeBytes s.mem a bytes hs.memCanonical)
  · exact inv_exec (inv_setRequests hs rest) hreq hexec

theorem constantRegs_not_configured : ∀ r ∈ constantRegs, r ∉ PowerOn.configuredRegs := by decide

/-- Settles O54, from the reset value of each register. -/
theorem invariantAtReset : Obligations.InvariantAtReset := by
  have hreg := PowerOn.getReg_reset
  exact {
    cfgWellFormed := PowerOn.wellFormed_defaultCfg
    cfgAccess := ⟨fun _ => id, fun _ => id⟩
    cfgStrap := by decide
    accBounded := Nat.zero_le _
    counterFieldClear := by rw [hreg]; rfl
    constantZero := fun r hr => by
      rw [hreg]
      exact PowerOn.resetReg_of_not_mem _ (constantRegs_not_configured r hr)
    strap := by rw [hreg]; decide
    irqLine := by rw [hreg, hreg]; rfl
    pcieMaskNarrow := by rw [hreg]; rfl
    minFszNarrow := by rw [hreg]; rfl
    txCursorBound := by rw [hreg]; exact Nat.zero_le _
    rxCursorBound := by rw [hreg]; exact Nat.zero_le _
    memCanonical := rfl
    wordsCanonical := rfl }

end Sys2Proof.Invariants
end

section
/-! The encoder and the decoder undo each other (R80, R100 to R112). A bus access is one request shape for all
its rows, told apart by the place its offset selects; a data word is one decoder per port; a descriptor is two
words. -/
namespace Sys2Proof.Encoding

open Sys2Proof.Machine Sys2Proof.Laws Sys2Proof.Claims Sys2Proof.Rows

variable {cfg : Cfg}

/-! ### Bus accesses (R101, R103) -/

theorem selectsPlace_iff {off : Word} {p : Place} : selectsPlace cfg off p = true ↔
    busReaches cfg accessBytes off.toNat = true ∧ placeOf cfg off.toNat = p := by
  simp [selectsPlace]

/-- The offset of a named register selects that register. -/
theorem selectsPlace_offset (h : cfg.wellFormed = true) (r : Reg) :
    selectsPlace cfg (BitVec.ofNat 32 (offsetOf cfg r)) (.named r) = true := by
  rw [selectsPlace_iff, toNat_offset h]
  exact ⟨busReaches_offset h r, placeOf_offset h r⟩

theorem decode_readRequest {off : Word} {p : Place} (h : selectsPlace cfg off p = true) :
    decode cfg (readRequest off).1 (readRequest off).2 = .ok (readAt off p) := by
  obtain ⟨hreach, rfl⟩ := selectsPlace_iff.mp h
  simp [readRequest, decode, decodeBusRead, hreach]

theorem decode_writeRequest {off : Word} {p : Place} (v : Word) (h : selectsPlace cfg off p = true) :
    decode cfg (writeRequest off v).1 (writeRequest off v).2 = .ok (writeAt off v p) := by
  obtain ⟨hreach, rfl⟩ := selectsPlace_iff.mp h
  simpa [writeRequest, decode, decodeBusWrite, accessBytes] using hreach

theorem offset_of_placeOf {off : Word} {r : Reg} (h : placeOf cfg off.toNat = .named r) :
    BitVec.ofNat 32 (offsetOf cfg r) = off := by
  unfold placeOf at h
  split at h
  · cases h
  · split at h
    · next hreg =>
      cases h
      have := List.find?_some hreg
      simp_all
    · split at h <;> cases h

theorem encode_readAt {off : Word} {p : Place} (h : placeOf cfg off.toNat = p) :
    encode cfg (readAt off p) = some (readRequest off) := by
  cases p with
  | named r => rw [readAt, encode_rdInstr, readReg, offset_of_placeOf h]
  | wol | plain | unmapped => rfl

theorem encode_writeAt {off : Word} {p : Place} (v : Word) (h : placeOf cfg off.toNat = p) :
    encode cfg (writeAt off v p) = some (writeRequest off v) := by
  cases p with
  | named r => rw [writeAt, encode_wrInstr, writeReg, offset_of_placeOf h]
  | wol | plain | unmapped => rfl

theorem size_of_busReaches {size a : Nat} (h : busReaches cfg size a = true) : size = accessBytes := by
  simp only [busReaches, Bool.and_eq_true, beq_iff_eq] at h
  obtain ⟨⟨hsize, -⟩, -⟩ := h
  exact hsize

theorem decodeBusRead_ok {size : Nat} {bytes : List Byte} {i : Instr}
    (h : decodeBusRead cfg size bytes = .ok i) :
    ∃ off, readRequest off = (.port (.busRead size), bytes) ∧ i = readAt off (placeOf cfg off.toNat) := by
  simp only [decodeBusRead] at h
  split_ifs at h with hlen hreach
  cases size_of_busReaches hreach
  cases h
  exact ⟨_, by rw [readRequest, toLE_fromLE_word _ hlen], rfl⟩

theorem decodeBusWrite_ok {size : Nat} {bytes : List Byte} {i : Instr}
    (h : decodeBusWrite cfg size bytes = .ok i) :
    ∃ off v, writeRequest off v = (.port (.busWrite size), bytes) ∧
      i = writeAt off v (placeOf cfg off.toNat) := by
  simp only [decodeBusWrite] at h
  split_ifs at h with hlen hreach
  cases size_of_busReaches hreach
  cases h
  have hlen : bytes.length = 8 := hlen
  refine ⟨_, _, ?_, rfl⟩
  rw [writeRequest, toLE_fromLE_word _ (by simp [hlen]), toLE_fromLE_word _ (by simp [hlen]),
    List.take_append_drop]

/-! ### Data words (R112, R154, R216) -/

@[simp] theorem decodeWord_toLE (v : Word) (k : Word → Instr) : decodeWord (toLE 4 v) k = .ok (k v) := by
  simp [decodeWord]

theorem decodeWord_bytes {bytes : List Byte} {k : Word → Instr} {i : Instr}
    (h : decodeWord bytes k = .ok i) : bytes.length = 4 ∧ i = k (fromLE 32 bytes) := by
  unfold decodeWord at h
  split at h
  · cases h
    exact ⟨‹_›, rfl⟩
  · cases h

theorem encode_swrstInstr (v : Word) : encode cfg (swrstInstr cfg v) = some (.port .swrst, toLE 4 v) := by
  unfold swrstInstr
  split <;> rfl

theorem mifKind_eq_badTag {v : Word} : mifKind cfg v = .badTag ↔ mifTag cfg v ≠ cfg.mifStValid := by
  unfold mifKind
  split_ifs <;> simp_all

theorem mifKind_eq_badOp {v : Word} : mifKind cfg v = .badOp ↔
    mifTag cfg v = cfg.mifStValid ∧ mifOpcode cfg v ≠ 1#32 ∧ mifOpcode cfg v ≠ 2#32 := by
  unfold mifKind
  split_ifs <;> simp_all [mifOpWrite, mifOpRead]

theorem mifKind_eq_read {v : Word} :
    mifKind cfg v = .read ↔ mifTag cfg v = cfg.mifStValid ∧ mifOpcode cfg v = 2#32 := by
  unfold mifKind
  split_ifs <;> simp_all [mifOpWrite, mifOpRead]

theorem encode_mifInstr {bytes : List Byte} (h : hasRow cfg (.port .mif) bytes) :
    encode cfg (mifInstr cfg (fromLE 32 bytes)) = some (.port .mif, toLE 4 (fromLE 32 bytes)) := by
  obtain ⟨hmif, -⟩ := h
  obtain ⟨hop, htag⟩ := hmif rfl
  unfold mifInstr
  split
  · rfl
  · rfl
  · next hkind =>
    obtain ⟨hvalid, hwrite, hread⟩ := mifKind_eq_badOp.mp hkind
    have hcode : mifOpcode cfg (fromLE 32 bytes) = 0#32 ∨ mifOpcode cfg (fromLE 32 bytes) = 3#32 := by
      simpa [hwrite, hread] using hop hvalid
    split_ifs with h0 h3
    · rfl
    · rfl
    · exact (hcode.elim h0 h3).elim
  · next hkind =>
    have hcode := htag (mifKind_eq_badTag.mp hkind)
    split_ifs with h0 h2 h3
    · rfl
    · rfl
    · rfl
    · simp [h0, h2, h3] at hcode

theorem mifInstr_of_not_hasRow {bytes : List Byte} (h : ¬ hasRow cfg (.port .mif) bytes) :
    mifInstr cfg (fromLE 32 bytes) = .wrMifFrame (fromLE 32 bytes) := by
  by_cases hvalid : mifTag cfg (fromLE 32 bytes) = cfg.mifStValid
  · have hop : mifOpcode cfg (fromLE 32 bytes) ∉ [0#32, 1#32, 2#32, 3#32] := fun hop =>
      h ⟨fun _ => ⟨fun _ => hop, fun hbad => absurd hvalid hbad⟩, nofun⟩
    have hkind : mifKind cfg (fromLE 32 bytes) = .badOp :=
      mifKind_eq_badOp.mpr ⟨hvalid, by simp_all, by simp_all⟩
    simp_all [mifInstr]
  · have htag : mifTag cfg (fromLE 32 bytes) ∉ [0#32, 2#32, 3#32] := fun htag =>
      h ⟨fun _ => ⟨fun hv => absurd hv hvalid, fun _ => htag⟩, nofun⟩
    simp_all [mifInstr, mifKind_eq_badTag.mpr hvalid]

theorem hasRow_phySelect {bytes : List Byte} :
    hasRow cfg (.port .phySelect) bytes ↔ mifKind cfg (fromLE 32 bytes) = .read := by
  simp [hasRow, mifKind_eq_read]

theorem encode_phyInstr {v : Word} (h : mifKind cfg v = .read) :
    encode cfg (phyInstr cfg v) = some (.port .phySelect, toLE 4 v) := by
  rw [phyInstr, if_pos h]
  split <;> rfl

theorem phyInstr_of_not_read {v : Word} (h : mifKind cfg v ≠ .read) : phyInstr cfg v = .wrMifFrame v :=
  if_neg h

/-! ### Descriptors (R104) -/

theorem decodeDescriptor_descBytesOf (word0 word1 : DWord) (k : DWord → DWord → Instr) :
    decodeDescriptor cfg (descBytesOf cfg.descOrder word0 word1) k = .ok (k word0 word1) := by
  simp [decodeDescriptor, descBytes]

theorem descBytesOf_descWords (o : ByteOrder) {bytes : List Byte} (h : bytes.length = 16) :
    descBytesOf o (descWord0 o bytes) (descWord1 o bytes) = bytes := by
  rw [descBytesOf, descWord0, descWord1, bytesOfWord_wordOfBytes o _ (by simp [h]),
    bytesOfWord_wordOfBytes o _ (by simp [h]), List.take_of_length_le (l := bytes.drop 8) (by simp [h]),
    List.take_append_drop]

theorem decodeDescriptor_ok {bytes : List Byte} {k : DWord → DWord → Instr} {i : Instr}
    (h : decodeDescriptor cfg bytes k = .ok i) :
    ∃ word0 word1, descBytesOf cfg.descOrder word0 word1 = bytes ∧ i = k word0 word1 := by
  unfold decodeDescriptor at h
  split at h
  · next hlen =>
    cases h
    exact ⟨_, _, descBytesOf_descWords _ hlen, rfl⟩
  · cases h

/-! ### The round trips -/

/-- Settles O1, by the shape of the row. -/
theorem decodeOfEncode : Obligations.DecodeOfEncode := by
  intro cfg i src bytes hcfg hi hsrc
  cases row i with
  | readReg r =>
    cases (encode_rdInstr cfg r).symm.trans hsrc
    exact decode_readRequest (selectsPlace_offset hcfg r)
  | writeReg r v =>
    cases (encode_wrInstr cfg r v).symm.trans hsrc
    exact decode_writeRequest v (selectsPlace_offset hcfg r)
  | rdPlainWord off | rdWolWord off | rdUnmapped off =>
    cases hsrc
    exact decode_readRequest hi
  | wrPlainWord off v | wrWolWord off v | wrUnmapped off v =>
    cases hsrc
    exact decode_writeRequest v hi
  | swrstAll v | swrstRx v | swrstTx v | swrstNone v =>
    cases hsrc
    simp_all [decode, swrstInstr, Instr.wellFormed]
  | mifWrite v | mifRead v | mifBadOp0 v | mifBadOp3 v | mifBadTag0 v | mifBadTag2 v | mifBadTag3 v =>
    cases hsrc
    simp_all [decode, mifInstr, Instr.wellFormed]
  | phyreg0Control v | phyreg1Status v | phyreg2IdentifierHigh v | phyreg3IdentifierLow v
  | phyreg4Advertisement v | phyreg5LinkPartner v | phyreg24Auxiliary v =>
    cases hsrc
    simp_all [decode, phyInstr, readsPhyReg, Instr.wellFormed]
  | phyregOther v =>
    cases hsrc
    simp_all [decode, phyInstr, listedPhyRegs, Instr.wellFormed]
  | txd ctl buf | rxdPosted ctl buf | rxdStatus ctl buf =>
    cases hsrc
    exact decodeDescriptor_descBytesOf _ _ _
  | canAccept | busReset | deliver frame =>
    cases hsrc
    rfl
  | setLink up =>
    cases hsrc
    cases up <;> rfl
  | _ => cases hsrc

theorem encode_of_decode {i : Instr} {src : Source} {bytes : List Byte} (hrow : hasRow cfg src bytes)
    (h : decode cfg src bytes = .ok i) : encode cfg i = some (src, bytes) := by
  cases src with
  | txDescriptor | rxPosted | rxStatus =>
    obtain ⟨word0, word1, rfl, rfl⟩ := decodeDescriptor_ok h
    rfl
  | port p =>
    cases p with
    | busRead size =>
      obtain ⟨off, hbytes, rfl⟩ := decodeBusRead_ok h
      rw [← hbytes]
      exact encode_readAt rfl
    | busWrite size =>
      obtain ⟨off, v, hbytes, rfl⟩ := decodeBusWrite_ok h
      rw [← hbytes]
      exact encode_writeAt v rfl
    | swrst =>
      obtain ⟨hlen, rfl⟩ := decodeWord_bytes h
      rw [encode_swrstInstr, toLE_fromLE_word bytes hlen]
    | mif =>
      obtain ⟨hlen, rfl⟩ := decodeWord_bytes h
      rw [encode_mifInstr hrow, toLE_fromLE_word bytes hlen]
    | phySelect =>
      obtain ⟨hlen, rfl⟩ := decodeWord_bytes h
      rw [encode_phyInstr (hasRow_phySelect.mp hrow), toLE_fromLE_word bytes hlen]
    | canAccept | busReset =>
      simp only [decode, decodeNone] at h
      split_ifs at h with hbytes
      cases h
      rw [hbytes]
      rfl
    | deliver =>
      cases h
      rfl
    | setLink =>
      simp only [decode, decodeLink] at h
      split_ifs at h with h0 h1
      · cases h
        rw [h0]
        rfl
      · cases h
        rw [h1]
        rfl

/-- Only the data words of MIF_FRAME can be without a row (log entry 26). -/
theorem source_of_not_hasRow {src : Source} {bytes : List Byte} (h : ¬ hasRow cfg src bytes) :
    src = .port .mif ∨ src = .port .phySelect := by
  by_contra hsrc
  rw [not_or] at hsrc
  exact h ⟨fun hmif => absurd hmif hsrc.1, fun hphy => absurd hphy hsrc.2⟩

theorem decode_of_not_hasRow {i : Instr} {src : Source} {bytes : List Byte}
    (hrow : ¬ hasRow cfg src bytes) (h : decode cfg src bytes = .ok i) :
    bytes.length = 4 ∧ i = .wrMifFrame (fromLE 32 bytes) := by
  rcases source_of_not_hasRow hrow with rfl | rfl
  · obtain ⟨hlen, rfl⟩ := decodeWord_bytes h
    exact ⟨hlen, mifInstr_of_not_hasRow hrow⟩
  · obtain ⟨hlen, rfl⟩ := decodeWord_bytes h
    exact ⟨hlen, phyInstr_of_not_read (mt hasRow_phySelect.mpr hrow)⟩

/-- Settles O2, by the source. -/
theorem encodeOfDecode : Obligations.EncodeOfDecode :=
  fun _ _ _ _ _ h => ⟨fun hrow => encode_of_decode hrow h, fun hrow => decode_of_not_hasRow hrow h⟩

/-- Settles O5: the six words are the encodings of the six instructions. -/
theorem writtenOutWordsDecode : Obligations.WrittenOutWordsDecode := by
  have roundTrip {i : Instr} {src : Source} {bytes : List Byte} (hi : i.wellFormed defaultCfg = true)
      (hsrc : encode defaultCfg i = some (src, bytes)) : decode defaultCfg src bytes = .ok i :=
    decodeOfEncode defaultCfg i src bytes PowerOn.wellFormed_defaultCfg hi hsrc
  exact ⟨roundTrip rfl rfl, roundTrip rfl rfl, roundTrip (by decide) rfl, roundTrip (by decide) rfl,
    roundTrip (by decide) rfl, roundTrip rfl rfl⟩

end Sys2Proof.Encoding
end

section
/-! What becomes of the oldest request when it is no instruction: a store of the guest (R93, R322), or a bus
access that never reaches the block (R86, R302). -/
namespace Sys2Proof.Requests

open Sys2Proof.Machine Sys2Proof.Laws

theorem step_of_guestStore {s : State} {a : Addr} {bytes : List Byte} {rest : List Request}
    (h : s.requests = .guestStore a bytes :: rest) :
    step s = .next (setMem (setRequests s rest) (writeBytes s.mem a bytes)) := by
  simp [step, runNext, h]

/-- Settles O8: the step replaces memory and the requests, nothing else. -/
theorem guestStoreChangesOnlyItsBytes : Obligations.GuestStoreChangesOnlyItsBytes := by
  intro s a bytes rest hq hlen
  exact ⟨_, step_of_guestStore hq, fun k hk => readByte_writeBytes s.mem a bytes k hk hlen,
    fun x hx => readByte_writeBytes_of_ne s.mem a bytes x hx,
    fun _ _ => rfl, fun _ => rfl, ⟨rfl, rfl⟩, ⟨rfl, rfl⟩, rfl, rfl, rfl⟩

theorem step_of_rejected {s : State} {p : Port} {bytes : List Byte} {rest : List Request} {e : DecodeError}
    (hq : s.requests = .op p bytes :: rest) (hd : decode s.cfg (.port p) bytes = .error e) :
    step s = .refused (refusalOf e) := by
  simp [step, runNext, hq, hd]

theorem not_busReaches {cfg : Cfg} {size a : Nat} (h : size ≠ 4 ∨ a % 4 ≠ 0 ∨ cfg.spaceBytes ≤ a) :
    ¬ busReaches cfg size a = true := by
  simp only [busReaches, accessBytes, Bool.and_eq_true, beq_iff_eq, decide_eq_true_eq]
  omega

/-- Settles O9. -/
theorem busAccessRefused : Obligations.BusAccessRefused := by
  intro s size off data rest h
  have hreach := not_busReaches h
  have rejected {p : Port} {bytes : List Byte} (hq : s.requests = .op p bytes :: rest)
      (hd : decode s.cfg (.port p) bytes = .error (.busRefused off.toNat size)) :
      step s = .refused (.busRefused off.toNat size) := step_of_rejected hq hd
  refine ⟨fun hq => rejected hq ?_, fun hsize hq => rejected hq ?_⟩
  · simp [decode, decodeBusRead, hreach]
  · simp [decode, decodeBusWrite, hreach, hsize]

end Sys2Proof.Requests
end

section
/-! Guest memory (R71, R88): every row but the two of the receive engine leaves it as it finds it. -/
namespace Sys2Proof.GuestMemory

open Sys2Proof.Machine Sys2Proof.Laws Sys2Proof.Claims Sys2Proof.Rows

variable (s : State)

@[simp] theorem softReset_mem (v : Word) : (softReset s v).mem = s.mem := by
  unfold softReset
  split <;> simp

theorem unlessReadOnly_mem (r : Reg) {t : State} (h : t.mem = s.mem) :
    (unlessReadOnly s r t).mem = s.mem :=
  unlessReadOnly_cases (P := fun u => u.mem = s.mem) r t rfl fun _ => h

theorem busReadReg_mem (r : Reg) : (busReadReg s r).2.mem = s.mem := by
  unfold busReadReg
  split <;> simp

theorem afterStore_mem (r : Reg) (v : Word) : (afterStore s r v).mem = s.mem := by
  unfold afterStore
  split <;> simp

theorem busWriteReg_mem (r : Reg) (v : Word) : (busWriteReg s r v).mem = s.mem := by
  apply unlessReadOnly_mem
  split
  · simp
  · exact afterStore_mem (setReg s r (maskWrite s.cfg r v)) r (maskWrite s.cfg r v)

theorem exec_returning_mem {i : Instr} (h : storesToMemory i = false) :
    ∃ t res, exec i s = returning t res ∧ t.mem = s.mem := by
  cases row i with
  | readReg r => exact ⟨_, _, exec_rdInstr r s, busReadReg_mem s r⟩
  | writeReg r v => exact ⟨_, _, exec_wrInstr r v s, busWriteReg_mem s r v⟩
  | swrstAll v | swrstRx v | swrstTx v | swrstNone v =>
    exact ⟨_, _, rfl, unlessReadOnly_mem s _ (by simp [storeSwrst])⟩
  | mifWrite v | mifRead v | mifBadOp0 v | mifBadOp3 v | mifBadTag0 v | mifBadTag2 v | mifBadTag3 v
  | phyreg0Control v | phyreg1Status v | phyreg2IdentifierHigh v | phyreg3IdentifierLow v
  | phyreg4Advertisement v | phyreg5LinkPartner v | phyreg24Auxiliary v | phyregOther v =>
    exact ⟨_, _, rfl, unlessReadOnly_mem s _ (storeFrame_mem _ _ _)⟩
  | rxdStatus status buf | deliver frame => cases h
  | _ => exact ⟨_, _, rfl, by simp⟩

/-- Settles O57. -/
theorem onlyReceiveStoresToMemory : Obligations.OnlyReceiveStoresToMemory := by
  intro i s t ht hi a
  obtain ⟨u, res, hu, hmem⟩ := exec_returning_mem s hi
  cases hu.symm.trans ht
  exact congrArg (readByte · a) hmem

end Sys2Proof.GuestMemory
end

section
/-! The outputs of one transmit descriptor (R236 to R245), part by part of `ProcessTxDesc`. -/
namespace Sys2Proof.TransmitOutputs

open Sys2Proof.Machine Sys2Proof.Laws Sys2Proof.Claims

variable (s : State)

theorem anySet_iff {w : Nat} {v m : BitVec w} : anySet v m = true ↔ v &&& m ≠ 0#w := by
  simp [anySet]

/-! ### The start of a frame (R237) -/

theorem beginFrame_trace (ctl : DWord) : (beginFrame s ctl).trace = s.trace ++
    (if ctl &&& s.cfg.txdSof ≠ 0#64 ∧ s.txAcc ≠ [] then [.log (.txUnfinishedFrame s.txAcc.length)]
      else []) := by
  unfold beginFrame
  split_ifs <;> simp_all [anySet_iff]

theorem txAcc_beginFrame_eq_accBefore (ctl : DWord) : (beginFrame s ctl).txAcc = accBefore s ctl := by
  rw [beginFrame_txAcc, accBefore]

theorem txFirstCtl_beginFrame_eq_firstOf (ctl : DWord) : (beginFrame s ctl).txFirstCtl = firstOf s ctl := by
  rw [beginFrame_txFirstCtl, firstOf]

/-! ### The payload (R238, R239) -/

theorem copyLength_beginFrame_eq_addedLength (ctl : DWord) :
    copyLength (beginFrame s ctl) ctl = addedLength s ctl := by
  rw [copyLength, txAcc_beginFrame_eq_accBefore, beginFrame_cfg]
  rfl

theorem appendPayload_trace (ctl : DWord) (buf : Addr) : (appendPayload s ctl buf).trace = s.trace ++
    (if s.txAcc.length + txdLen s.cfg ctl > s.cfg.txAccMax then
      [.log (.txOverflow (txdLen s.cfg ctl) (copyLength s ctl))] else []) ++
    (if copyLength s ctl = 0 then [] else [.dmaRead buf (copyLength s ctl)]) := by
  simp only [appendPayload, setTxAcc_trace, dmaRead_trace]
  split_ifs <;> simp

theorem txAcc_appendPayload_eq_accAfter (ctl : DWord) (buf : Addr) :
    (appendPayload (beginFrame s ctl) ctl buf).txAcc = accAfter s ctl buf := by
  rw [appendPayload_txAcc, copyLength_beginFrame_eq_addedLength, txAcc_beginFrame_eq_accBefore,
    beginFrame_mem, accAfter]

/-! ### The checksum (R240, R244, R245) -/

theorem txChecksumFits_iff {len start off : Nat} :
    txChecksumFits len start off = true ↔ checksumFits len start off := by
  simp only [txChecksumFits, Bool.not_eq_true', Bool.or_eq_false_iff, decide_eq_false_iff_not]
  omega

/-- The frame that leaves the block for the accumulated bytes `acc`, with the checksum its first control word
asks for where it fits. -/
def finishedFrame (cfg : Cfg) (first : DWord) (acc : List Byte) : List Byte :=
  if first &&& cfg.txdCenab ≠ 0#64 ∧
      checksumFits acc.length (txdCsumStart cfg first) (txdCsumOff cfg first) then
    insertChecksum cfg acc (txdCsumStart cfg first) (txdCsumOff cfg first)
  else acc

section
variable (cfg : Cfg) {frame : List Byte} (start : Nat) {off : Nat}

theorem insertChecksum_high (h : off < frame.length) : (insertChecksum cfg frame start off)[off]? =
    some ((checksum cfg (frame.drop start) >>> 8).setWidth 8) := by
  rw [insertChecksum, List.getElem?_set_ne (by omega), List.getElem?_set_self h, be16]

theorem insertChecksum_low (h : off + 1 < frame.length) : (insertChecksum cfg frame start off)[off + 1]? =
    some ((checksum cfg (frame.drop start)).setWidth 8) := by
  rw [insertChecksum, List.getElem?_set_self (by simpa using h), be16]

theorem insertChecksum_elsewhere {k : Nat} (hhigh : k ≠ off) (hlow : k ≠ off + 1) :
    (insertChecksum cfg frame start off)[k]? = frame[k]? := by
  rw [insertChecksum, List.getElem?_set_ne hlow.symm, List.getElem?_set_ne hhigh.symm]

end

/-- The two checksum bytes lie inside the frame when the insertion fits. -/
theorem checksummed_finishedFrame (cfg : Cfg) (first : DWord) (acc : List Byte) :
    Checksummed cfg first acc (finishedFrame cfg first acc) := by
  unfold finishedFrame
  split_ifs with h
  · obtain ⟨henab, hfits⟩ := h
    have hinside : txdCsumOff cfg first + 1 < acc.length := by
      obtain ⟨hlen, -, hoff⟩ := hfits
      omega
    exact ⟨by simp [insertChecksum], fun hno => (hno.elim henab (absurd hfits)).elim, fun _ _ =>
      ⟨insertChecksum_high cfg _ (by omega), insertChecksum_low cfg _ hinside,
        fun _ => insertChecksum_elsewhere cfg _⟩⟩
  · exact ⟨rfl, fun _ => rfl, fun henab hfits => absurd ⟨henab, hfits⟩ h⟩

/-- Event E5, when the checksum is asked for and does not fit (R244, R302). -/
def checksumEvents (cfg : Cfg) (first : DWord) (acc : List Byte) : List Event :=
  if first &&& cfg.txdCenab ≠ 0#64 ∧
      ¬ checksumFits acc.length (txdCsumStart cfg first) (txdCsumOff cfg first) then
    [.log (.txChecksumOutOfBounds (txdCsumStart cfg first) (txdCsumOff cfg first) acc.length)]
  else []

/-- The checksum part of the end of a frame. -/
def finishFrame (s : State) : State := if anySet s.txFirstCtl s.cfg.txdCenab then txChecksum s else s

theorem txAcc_finishFrame : (finishFrame s).txAcc = finishedFrame s.cfg s.txFirstCtl s.txAcc := by
  simp only [finishFrame, txChecksum, finishedFrame, anySet_iff, txChecksumFits_iff]
  split_ifs <;> simp_all

theorem finishFrame_trace :
    (finishFrame s).trace = s.trace ++ checksumEvents s.cfg s.txFirstCtl s.txAcc := by
  simp only [finishFrame, txChecksum, checksumEvents, anySet_iff, txChecksumFits_iff]
  split_ifs <;> simp_all

/-! ### The end of a frame (R240 to R243) -/

theorem handOn_trace (f : List Byte) : (handOn s f).trace = s.trace ++ [handedOn s f] := by
  simp only [handOn, handedOn, anySet_iff]
  split_ifs <;> rfl

theorem handedOn_congr {s t : State} (hreg : getReg t .macXifcfg = getReg s .macXifcfg)
    (hcfg : t.cfg = s.cfg) (f : List Byte) : handedOn t f = handedOn s f := by
  rw [handedOn, handedOn, hreg, hcfg]

theorem handedOn_finishFrame (f : List Byte) : handedOn (finishFrame s) f = handedOn s f := by
  unfold finishFrame
  split
  · exact handedOn_congr (by simp) (by simp) f
  · rfl

theorem endFrame_trace (ctl : DWord) : (endFrame s ctl).trace = s.trace ++
    (if ctl &&& s.cfg.txdEof = 0#64 then [] else
      checksumEvents s.cfg s.txFirstCtl s.txAcc ++
        [handedOn s (finishedFrame s.cfg s.txFirstCtl s.txAcc)]) := by
  have hend : endFrame s ctl = if anySet ctl s.cfg.txdEof then
      setTxFirst (setTxAcc (handOn (finishFrame s) (finishFrame s).txAcc) []) 0#64 else s := rfl
  rw [hend]
  split_ifs with heof hzero hzero
  · exact absurd hzero (anySet_iff.mp heof)
  · rw [setTxFirst_trace, setTxAcc_trace, handOn_trace, finishFrame_trace, handedOn_finishFrame,
      txAcc_finishFrame, List.append_assoc]
  · rw [List.append_nil]
  · exact absurd (anySet_iff.mpr hzero) heof

/-! ### The descriptor -/

/-- The outputs so far, then a status update: it outputs the change of the line (R200). -/
theorem outputsThenLine_setStatus {s u : State} {evs : List Event} (htrace : u.trace = s.trace ++ evs)
    (hirq : u.irq = s.irq) (bits : Word) (on : Bool) : OutputsThenLine evs s (setStatus u bits on) := by
  have h := RegisterRows.outputs_evaluate (setReg u .gregStat (withBits (getReg u .gregStat) bits on))
  simpa [OutputsThenLine, setStatus, htrace, hirq] using h

/-- Settles O41: the parts of `ProcessTxDesc` output in their order, the status update the rest. -/
theorem txDescriptorOutputs : Obligations.TxDescriptorOutputs := by
  intro ctl buf s
  refine ⟨_, finishedFrame s.cfg (firstOf s ctl) (accAfter s ctl buf), rfl,
    checksummed_finishedFrame _ _ _, ?_⟩
  have hfirst : (appendPayload (beginFrame s ctl) ctl buf).txFirstCtl = firstOf s ctl := by
    rw [appendPayload_txFirstCtl, txFirstCtl_beginFrame_eq_firstOf]
  refine outputsThenLine_setStatus (u := processTxDesc s ctl buf) ?_ (processTxDesc_irq s ctl buf) _ true
  rw [processTxDesc, endFrame_trace, hfirst, txAcc_appendPayload_eq_accAfter, appendPayload_trace,
    copyLength_beginFrame_eq_addedLength, txAcc_beginFrame_eq_accBefore, beginFrame_trace]
  have hpath := handedOn_congr (s := s) (t := appendPayload (beginFrame s ctl) ctl buf) (by simp) (by simp)
  simp only [appendPayload_cfg, beginFrame_cfg, hpath, List.append_assoc]
  rfl

end Sys2Proof.TransmitOutputs
end

section
/-! What the decoder gives lies in its row of the opcode table (R103, R112, R154, R216), source by source. -/
namespace Sys2Proof.DecodedRows

open Sys2Proof.Machine Sys2Proof.Encoding

variable {cfg : Cfg}

/-! ### Bus accesses (R101, R103) -/

@[simp] theorem wellFormed_rdInstr (r : Reg) : (rdInstr r).wellFormed cfg = true := by
  cases r <;> rfl

@[simp] theorem wellFormed_wrInstr (r : Reg) (v : Word) : (wrInstr v r).wellFormed cfg = true := by
  cases r <;> rfl

theorem wellFormed_readAt {off : Word} {p : Place} (h : selectsPlace cfg off p = true) :
    (readAt off p).wellFormed cfg = true := by
  cases p with
  | named r => exact wellFormed_rdInstr r
  | wol | plain | unmapped => exact h

theorem wellFormed_writeAt {off : Word} {p : Place} (v : Word) (h : selectsPlace cfg off p = true) :
    (writeAt off v p).wellFormed cfg = true := by
  cases p with
  | named r => exact wellFormed_wrInstr r v
  | wol | plain | unmapped => exact h

theorem wellFormed_of_decodeBusRead {size : Nat} {bytes : List Byte} {i : Instr}
    (h : decodeBusRead cfg size bytes = .ok i) : i.wellFormed cfg = true := by
  simp only [decodeBusRead] at h
  split_ifs at h with hlen hreach
  cases size_of_busReaches hreach
  cases h
  exact wellFormed_readAt (selectsPlace_iff.mpr ⟨hreach, rfl⟩)

theorem wellFormed_of_decodeBusWrite {size : Nat} {bytes : List Byte} {i : Instr}
    (h : decodeBusWrite cfg size bytes = .ok i) : i.wellFormed cfg = true := by
  simp only [decodeBusWrite] at h
  split_ifs at h with hlen hreach
  cases size_of_busReaches hreach
  cases h
  exact wellFormed_writeAt _ (selectsPlace_iff.mpr ⟨hreach, rfl⟩)

/-! ### Data words (R112, R154, R216) -/

theorem wellFormed_swrstInstr (v : Word) : (swrstInstr cfg v).wellFormed cfg = true := by
  unfold swrstInstr
  split <;> simpa [Instr.wellFormed]

theorem wellFormed_mifInstr (v : Word) : (mifInstr cfg v).wellFormed cfg = true := by
  unfold mifInstr
  split
  · simpa [Instr.wellFormed]
  · simpa [Instr.wellFormed]
  · split_ifs <;> simp_all [Instr.wellFormed]
  · split_ifs <;> simp_all [Instr.wellFormed]

/-- The last row takes the registers without a row of their own (R216). -/
theorem wellFormed_phyInstr (v : Word) : (phyInstr cfg v).wellFormed cfg = true := by
  by_cases hread : mifKind cfg v = .read
  · rw [phyInstr, if_pos hread]
    split <;> simp_all [Instr.wellFormed, readsPhyReg, listedPhyRegs]
  · rw [phyInstr_of_not_read hread]
    rfl

/-! ### Every source but the receive write-back -/

/-- Settles O3, by the source. -/
theorem decodedIsWellFormed : Obligations.DecodedIsWellFormed := by
  intro cfg i src bytes _ hsrc h
  cases src with
  | rxStatus => exact absurd rfl hsrc
  | txDescriptor | rxPosted =>
    obtain ⟨word0, word1, -, rfl⟩ := decodeDescriptor_ok h
    rfl
  | port p =>
    cases p with
    | busRead size => exact wellFormed_of_decodeBusRead h
    | busWrite size => exact wellFormed_of_decodeBusWrite h
    | swrst =>
      obtain ⟨-, rfl⟩ := decodeWord_bytes h
      exact wellFormed_swrstInstr _
    | mif =>
      obtain ⟨-, rfl⟩ := decodeWord_bytes h
      exact wellFormed_mifInstr _
    | phySelect =>
      obtain ⟨-, rfl⟩ := decodeWord_bytes h
      exact wellFormed_phyInstr _
    | canAccept | busReset =>
      cases Invariants.decodeNone_ok h
      rfl
    | deliver =>
      cases h
      rfl
    | setLink =>
      simp only [decode, decodeLink] at h
      split_ifs at h <;> cases h <;> rfl

end Sys2Proof.DecodedRows
end

section
/-! The address map (R10, R31, R102): banks that do not overlap leave the order in which the decoder tries them
without a say. -/
namespace Sys2Proof.AddressMap

open Sys2Proof.Machine Sys2Proof.Laws

variable {cfg : Cfg}

theorem bankCovers_iff {b : Bank} {a : Nat} :
    bankCovers b a = true ↔ b.base ≤ a ∧ a < b.base + 4 * b.count := by
  simp [bankCovers]

theorem banksApart_iff {b c : Bank} :
    banksApart b c = true ↔ b.base + 4 * b.count ≤ c.base ∨ c.base + 4 * c.count ≤ b.base := by
  simp [banksApart]

theorem pairwise_of_banksDisjoint {bs : List Bank} (h : banksDisjoint bs = true) :
    bs.Pairwise fun b c => banksApart b c = true := by
  induction bs with
  | nil => exact .nil
  | cons b bs ih =>
    obtain ⟨hb, hbs⟩ := Bool.and_eq_true_iff.mp h
    exact .cons (List.all_eq_true.mp hb) (ih hbs)

/-- At most one bank covers an offset: two that do are the same entry. -/
theorem bank_unique (h : cfg.wellFormed = true) {a : Nat} {b c : Bank} (hb : b ∈ cfg.banks)
    (hc : c ∈ cfg.banks) (hba : bankCovers b a = true) (hca : bankCovers c a = true) : b = c := by
  have hdisjoint : banksDisjoint cfg.banks = true := by
    simp only [Cfg.wellFormed, Bool.and_eq_true] at h
    obtain ⟨⟨⟨⟨⟨-, hdisjoint⟩, -⟩, -⟩, -⟩, -⟩ := h
    exact hdisjoint
  have hsymm : Std.Symm fun b c : Bank => banksApart b c = true :=
    ⟨fun _ _ hxy => banksApart_iff.mpr (banksApart_iff.mp hxy).symm⟩
  by_contra hne
  have hapart := (pairwise_of_banksDisjoint hdisjoint).forall hb hc hne
  rw [banksApart_iff] at hapart
  rw [bankCovers_iff] at hba hca
  omega

theorem decodeOffset_of_bankCovers (h : cfg.wellFormed = true) {a : Nat} {b : Bank} (hb : b ∈ cfg.banks)
    (hba : bankCovers b a = true) : decodeOffset cfg a = some (b.name, (a - b.base) / 4) := by
  have hsome : (cfg.banks.find? fun b => bankCovers b a).isSome = true :=
    List.find?_isSome.mpr ⟨b, hb, hba⟩
  obtain ⟨c, hc⟩ := Option.isSome_iff_exists.mp hsome
  have hca : bankCovers c a = true := by simpa using List.find?_some hc
  have hcb : c = b := bank_unique h (List.mem_of_find?_eq_some hc) hb hca hba
  rw [decodeOffset, hc, hcb]
  rfl

theorem decodeOffset_of_no_bank {a : Nat} (h : ∀ b ∈ cfg.banks, bankCovers b a = false) :
    decodeOffset cfg a = none := by
  rw [decodeOffset, List.find?_eq_none.mpr (by simpa using h)]
  rfl

theorem regAt_eq_some_iff (h : cfg.wellFormed = true) {a : Nat} {r : Reg} :
    regAt cfg a = some r ↔ offsetOf cfg r = a := by
  constructor
  · intro hr
    simpa using List.find?_some hr
  · rintro rfl
    obtain ⟨-, -, hreg⟩ := register_placed h r
    exact hreg

/-- Settles O6. -/
theorem offsetSelectsOneBankAndIndex : Obligations.OffsetSelectsOneBankAndIndex :=
  fun _ _ h => ⟨fun _ hb _ hc => bank_unique h hb hc, fun _ hb => decodeOffset_of_bankCovers h hb,
    decodeOffset_of_no_bank, fun _ => regAt_eq_some_iff h⟩

end Sys2Proof.AddressMap
end

section
/-! The receive descriptor (R108 to R110): the address a posted one gives, the fields of the status word, and
the write-back of a slot. -/
namespace Sys2Proof.ReceiveDescriptor

open Sys2Proof.Machine Sys2Proof.Laws Sys2Proof.Claims

/-! ### Posted (R108, R280) -/

/-- Settles O49: the row returns the address and does nothing. -/
theorem postedDescriptorGivesTheAddress : Obligations.PostedDescriptorGivesTheAddress :=
  fun _ _ s => ⟨_, rfl, rfl, RegisterRows.onlyRegs_setResult s _, RegisterRows.silent_setResult s _⟩

/-! ### The status word (R109) -/

/-- The set bits of the mask are the `n` bits from `lo` on. -/
def maskIs (m : DWord) (lo n : Nat) : Prop :=
  lowestSet m = lo ∧ ∀ i < 64, m.getLsbD i = decide (lo ≤ i ∧ i < lo + n)

theorem getLsbD_put {m : DWord} {lo n : Nat} (h : maskIs m lo n) (f : DWord) {i : Nat} (hi : i < 64) :
    (put m f).getLsbD i = (decide (lo ≤ i ∧ i < lo + n) && f.getLsbD (i - lo)) := by
  obtain ⟨hlow, hbits⟩ := h
  rw [put, BitVec.getLsbD_and, hbits i hi, hlow, BitVec.getLsbD_shiftLeft, Bool.and_comm]
  by_cases hin : lo ≤ i ∧ i < lo + n
  · simp [hin, hi]
  · simp [hin]

theorem getLsbD_flag {m : DWord} {lo : Nat} (h : maskIs m lo 1) (b : Bool) {i : Nat} (hi : i < 64) :
    (if b then m else 0#64).getLsbD i = (decide (i = lo) && b) := by
  obtain ⟨-, hbits⟩ := h
  have hone : (lo ≤ i ∧ i < lo + 1) ↔ i = lo := by omega
  cases b
  · simp
  · rw [if_pos rfl, hbits i hi, Bool.and_true, decide_eq_decide]
    exact hone

/-- The default places of the fields (decision D14). -/
theorem default_rxdMasks : maskIs defaultCfg.rxdCsum 0 16 ∧ maskIs defaultCfg.rxdLen 16 15 ∧
    maskIs defaultCfg.rxdHashval 44 16 ∧ maskIs defaultCfg.rxdHpass 60 1 ∧
    maskIs defaultCfg.rxdAltmac 61 1 := by
  unfold maskIs
  decide

/-- The status word bit by bit: each field at its place, zeros elsewhere. -/
theorem getLsbD_rxStatusWord (csum : Half) (len : Nat) (crc : Word) (hash alt : Bool) {i : Nat}
    (hi : i < 64) : (rxStatusWord defaultCfg csum len crc hash alt).getLsbD i =
      if i < 16 then csum.getLsbD i
      else if i < 31 then (len + 4).testBit (i - 16)
      else if i < 44 then false
      else if i < 60 then crc.getLsbD (16 + (i - 44))
      else if i = 60 then hash
      else if i = 61 then alt
      else false := by
  obtain ⟨hcsum, hlen, hhash, hpass, halt⟩ := default_rxdMasks
  have htrailer : defaultCfg.trailer = 4 := rfl
  simp only [rxStatusWord, BitVec.getLsbD_or, getLsbD_put hcsum _ hi, getLsbD_put hlen _ hi,
    getLsbD_put hhash _ hi, getLsbD_flag hpass _ hi, getLsbD_flag halt _ hi, htrailer,
    BitVec.getLsbD_setWidth, BitVec.getLsbD_ofNat, BitVec.getLsbD_ushiftRight]
  split_ifs <;> simp (disch := omega) [decide_eq_true, decide_eq_false, *]

theorem extractLsb'_eq_of_bits {w : DWord} {lo n : Nat} {v : BitVec n}
    (h : ∀ k < n, w.getLsbD (lo + k) = v.getLsbD k) : w.extractLsb' lo n = v :=
  BitVec.eq_of_getLsbD_eq fun k hk => by simpa [hk] using h k hk

/-- Settles O48: each clause reads the bits of its field. -/
theorem rxStatusWordFields : Obligations.RxStatusWordFields := by
  intro csum len crc hash alt w
  have bit {i : Nat} (hi : i < 64) := getLsbD_rxStatusWord csum len crc hash alt hi
  refine ⟨extractLsb'_eq_of_bits fun k hk => ?_, extractLsb'_eq_of_bits fun k hk => ?_, bit (by decide),
    extractLsb'_eq_of_bits fun k hk => ?_, extractLsb'_eq_of_bits fun k hk => ?_, bit (by decide),
    bit (by decide), extractLsb'_eq_of_bits fun k hk => ?_⟩ <;> rw [bit (by omega)]
  · simp [hk]
  · simp (disch := omega) [if_pos, BitVec.getLsbD_ofNat, hk, -BitVec.getLsbD_eq_getElem]
  · simp (disch := omega) [if_pos, if_neg]
  · simp (disch := omega) [if_pos, if_neg]
  · simp (disch := omega) [if_neg]

/-! ### The write-back (R110, R283, R284) -/

/-- Settles O50. -/
theorem writeBackCompletesTheSlot : Obligations.WriteBackCompletesTheSlot := by
  intro status buf s
  have hlen : (descBytesOf s.cfg.descOrder status buf).length = 16 := length_descBytesOf _ _ _
  refine ⟨_, rfl, ?_, fun x hx => ?_, ?_, ?_, fun r hr => ?_, fun a => ?_, ?_, ?_, ?_⟩
  · have h := readBytes_writeBytes s.mem (rxSlotAddr s) (descBytesOf s.cfg.descOrder status buf)
      (by rw [hlen]; decide)
    rw [hlen] at h
    simpa using h
  · have h := readByte_writeBytes_of_ne s.mem (rxSlotAddr s) (descBytesOf s.cfg.descOrder status buf) x
      (by rw [hlen]; exact hx)
    simpa using h
  · simp [advance, rxCursor]
  · have hfull : rxFull (rxWriteBack s status buf) = ringFull (rxMask s) (getReg s .rxdmaKick)
        (advance (rxMask s) (rxCursor s)) := by simp [rxFull, rxMask]
    refine (getReg_rxWriteBack_stat s status buf).trans ?_
    rw [← hfull]
    rfl
  · simp only [List.mem_cons, List.not_mem_nil, or_false, not_or] at hr
    obtain ⟨hstat, hdone⟩ := hr
    simp [hstat, hdone]
  · simp
  · simp [AccumulatorKept]
  · simp [InputsKept]
  · exact Line.lineSettled_setStatus _ _ _

end Sys2Proof.ReceiveDescriptor
end

section
/-! The run of a kick (R233, R234, R236): processing descriptors one after the other is the list function
`assemble`, and the slots the loop visits are those from the completion cursor up to the kick cursor. -/
namespace Sys2Proof.FrameAssembly

open Sys2Proof.Machine Sys2Proof.Laws Sys2Proof.Claims Sys2Proof.TransmitOutputs

/-! ### The frames an operation hands on (R243) -/

/-- The outputs from `s` to `t` hand on exactly the frames of the list, in order. -/
def HandsOn (frames : List (List Byte)) (s t : State) : Prop :=
  ∃ outputs, t.trace = s.trace ++ outputs ∧ outputs.filterMap frameOf = frames

section
variable {s t u : State} {frames more : List (List Byte)}

theorem HandsOn.trans (h : HandsOn frames s t) (h' : HandsOn more t u) : HandsOn (frames ++ more) s u := by
  obtain ⟨outputs, htrace, rfl⟩ := h
  obtain ⟨outputs', htrace', rfl⟩ := h'
  exact ⟨outputs ++ outputs', by rw [htrace', htrace, List.append_assoc], List.filterMap_append⟩

theorem handsOn_of_trace_eq (h : t.trace = s.trace) : HandsOn [] s t := ⟨[], by simpa using h, rfl⟩

theorem handsOn_dmaRead (s : State) (a : Addr) (n : Nat) : HandsOn [] s (dmaRead s a n).2 := by
  refine ⟨if n = 0 then [] else [.dmaRead a n], ?_, ?_⟩
  · rw [dmaRead_trace]
    split_ifs <;> simp
  · split_ifs <;> rfl

theorem handsOn_setStatus (s : State) (bits : Word) (on : Bool) : HandsOn [] s (setStatus s bits on) := by
  have h : OutputsThenLine [] s (setStatus s bits on) :=
    outputsThenLine_setStatus (List.append_nil _).symm rfl bits on
  refine ⟨_, h.trans (List.append_assoc _ _ _), ?_⟩
  split_ifs <;> rfl

end

/-! ### One descriptor (R236 to R243) -/

theorem frameOf_handedOn (s : State) (f : List Byte) : frameOf (handedOn s f) = some f := by
  unfold handedOn
  split_ifs <;> rfl

theorem filterMap_checksumEvents (cfg : Cfg) (first : DWord) (acc : List Byte) :
    (checksumEvents cfg first acc).filterMap frameOf = [] := by
  unfold checksumEvents
  split_ifs <;> rfl

theorem handsOn_beginFrame (s : State) (ctl : DWord) : HandsOn [] s (beginFrame s ctl) := by
  refine ⟨_, beginFrame_trace s ctl, ?_⟩
  split_ifs <;> rfl

theorem handsOn_appendPayload (s : State) (ctl : DWord) (buf : Addr) :
    HandsOn [] s (appendPayload s ctl buf) := by
  refine ⟨_, (appendPayload_trace s ctl buf).trans (List.append_assoc _ _ _), ?_⟩
  split_ifs <;> rfl

theorem handsOn_endFrame (s : State) (ctl : DWord) : HandsOn
    (if ctl &&& s.cfg.txdEof = 0#64 then [] else [finishedFrame s.cfg s.txFirstCtl s.txAcc])
    s (endFrame s ctl) := by
  refine ⟨_, endFrame_trace s ctl, ?_⟩
  split_ifs
  · rfl
  · rw [List.filterMap_append, filterMap_checksumEvents]
    simp [frameOf_handedOn]

/-- The frame a descriptor finishes, if it is the last of one. -/
def framesOf (s : State) (ctl : DWord) (buf : Addr) : List (List Byte) :=
  if ctl &&& s.cfg.txdEof = 0#64 then []
  else [finishedFrame s.cfg (firstOf s ctl) (accAfter s ctl buf)]

theorem handsOn_processTxDesc (s : State) (ctl : DWord) (buf : Addr) :
    HandsOn (framesOf s ctl buf) s (processTxDesc s ctl buf) := by
  have h := ((handsOn_beginFrame s ctl).trans (handsOn_appendPayload _ ctl buf)).trans
    (handsOn_endFrame _ ctl)
  rw [txAcc_appendPayload_eq_accAfter, appendPayload_txFirstCtl, txFirstCtl_beginFrame_eq_firstOf,
    appendPayload_cfg, beginFrame_cfg] at h
  exact h

/-! ### A list of descriptors -/

/-- From `s` to `t` the frame in assembly and the frames handed on are what `assemble` makes of the
descriptors; guest memory and the configuration are as before. -/
structure Assembled (ds : List (DWord × Addr)) (s t : State) : Prop where
  frames : HandsOn (assemble s.cfg s.mem s.txAcc s.txFirstCtl ds).1 s t
  left : (t.txAcc, t.txFirstCtl) = (assemble s.cfg s.mem s.txAcc s.txFirstCtl ds).2
  cfg : t.cfg = s.cfg
  mem : t.mem = s.mem

/-- Assembly of a list continues with what assembly of its front leaves. -/
theorem assemble_append (cfg : Cfg) (mem : Memory) (acc : List Byte) (first : DWord)
    (ds es : List (DWord × Addr)) : assemble cfg mem acc first (ds ++ es) =
      ((assemble cfg mem acc first ds).1 ++
        (assemble cfg mem (assemble cfg mem acc first ds).2.1 (assemble cfg mem acc first ds).2.2 es).1,
      (assemble cfg mem (assemble cfg mem acc first ds).2.1 (assemble cfg mem acc first ds).2.2 es).2) := by
  induction ds generalizing acc first with
  | nil => rfl
  | cons d ds ih =>
    obtain ⟨ctl, buf⟩ := d
    simp only [List.cons_append, assemble, ih]
    split_ifs <;> simp

section
variable {s t u : State} {ds es : List (DWord × Addr)}

theorem Assembled.trans (h : Assembled ds s t) (h' : Assembled es t u) : Assembled (ds ++ es) s u := by
  have hframes := h'.frames
  have hleft := h'.left
  rw [h.cfg, h.mem] at hframes hleft
  obtain ⟨hacc, hfirst⟩ := Prod.ext_iff.mp h.left
  rw [show t.txAcc = _ from hacc, show t.txFirstCtl = _ from hfirst] at hframes hleft
  refine ⟨?_, ?_, h'.cfg.trans h.cfg, h'.mem.trans h.mem⟩
  · rw [assemble_append]
    exact h.frames.trans hframes
  · rw [assemble_append]
    exact hleft

theorem Assembled.then_nil (h : Assembled ds s t) (h' : Assembled [] t u) : Assembled ds s u := by
  simpa using h.trans h'

/-- An update that hands on nothing and leaves the frame in assembly alone. -/
theorem assembled_nil (hframes : HandsOn [] s t) (hacc : AccumulatorKept s t) (hcfg : t.cfg = s.cfg)
    (hmem : t.mem = s.mem) : Assembled [] s t :=
  ⟨hframes, Prod.ext hacc.1 hacc.2, hcfg, hmem⟩

theorem assembled_refl (s : State) : Assembled [] s s :=
  assembled_nil (handsOn_of_trace_eq rfl) ⟨rfl, rfl⟩ rfl rfl

theorem assembled_setStatus (s : State) (bits : Word) (on : Bool) :
    Assembled [] s (setStatus s bits on) :=
  assembled_nil (handsOn_setStatus s bits on) ⟨by simp, by simp⟩ (by simp) (by simp)

theorem assembled_setReg (s : State) (r : Reg) (v : Word) : Assembled [] s (setReg s r v) :=
  assembled_nil (handsOn_of_trace_eq rfl) ⟨rfl, rfl⟩ rfl rfl

theorem assembled_setResult (s : State) (res : Result) : Assembled [] s (setResult s res) :=
  assembled_nil (handsOn_of_trace_eq rfl) ⟨rfl, rfl⟩ rfl rfl

theorem assembled_dmaRead (s : State) (a : Addr) (n : Nat) : Assembled [] s (dmaRead s a n).2 :=
  assembled_nil (handsOn_dmaRead s a n) ⟨by simp, by simp⟩ (by simp) (by simp)

end

/-- The finished frame, with the test of the model for where the checksum goes. -/
theorem finishedFrame_eq (cfg : Cfg) (first : DWord) (acc : List Byte) : finishedFrame cfg first acc =
    if first &&& cfg.txdCenab ≠ 0#64 ∧
        txChecksumFits acc.length (txdCsumStart cfg first) (txdCsumOff cfg first) = true then
      insertChecksum cfg acc (txdCsumStart cfg first) (txdCsumOff cfg first)
    else acc := by
  simp only [finishedFrame, txChecksumFits_iff]

/-- Assembly of one descriptor, in the terms of the transmit statements. -/
theorem assemble_singleton (s : State) (ctl : DWord) (buf : Addr) :
    assemble s.cfg s.mem s.txAcc s.txFirstCtl [(ctl, buf)] =
      (framesOf s ctl buf, if ctl &&& s.cfg.txdEof = 0#64 then (accAfter s ctl buf, firstOf s ctl)
        else ([], 0#64)) := by
  have hacc : (if ctl &&& s.cfg.txdSof ≠ 0#64 then [] else s.txAcc) = accBefore s ctl := by
    simp only [accBefore, anySet_iff]
  have hfirst : (if ctl &&& s.cfg.txdSof ≠ 0#64 then ctl else s.txFirstCtl) = firstOf s ctl := by
    simp only [firstOf, anySet_iff]
  simp only [assemble, hacc, hfirst, framesOf, finishedFrame_eq]
  by_cases heof : ctl &&& s.cfg.txdEof = 0#64
  · rw [if_neg (not_not.mpr heof), if_pos heof, if_pos heof]
    rfl
  · rw [if_pos heof, if_neg heof, if_neg heof]
    rfl

theorem assembled_processTxDesc (s : State) (ctl : DWord) (buf : Addr) :
    Assembled [(ctl, buf)] s (processTxDesc s ctl buf) := by
  refine ⟨?_, ?_, by simp, by simp⟩
  · rw [assemble_singleton]
    exact handsOn_processTxDesc s ctl buf
  · rw [assemble_singleton, processTxDesc, endFrame_txAcc, endFrame_txFirstCtl,
      txAcc_appendPayload_eq_accAfter, appendPayload_txFirstCtl, txFirstCtl_beginFrame_eq_firstOf,
      appendPayload_cfg, beginFrame_cfg]
    by_cases heof : ctl &&& s.cfg.txdEof = 0#64 <;> simp [anySet_iff, heof]

/-- The descriptor of a slot, as guest memory holds it (R234). -/
def slotDescriptor (cfg : Cfg) (mem : Memory) (base : Addr) (slot : Word) : DWord × Addr :=
  (descWord0 cfg.descOrder (readBytes mem (slotAddr base slot) 16),
    descWord1 cfg.descOrder (readBytes mem (slotAddr base slot) 16))

/-- One turn of the loop assembles the descriptor of its slot; the report adds no frame. -/
theorem assembled_txFetchSlot (s : State) (base : Addr) (mask comp : Word) :
    Assembled [slotDescriptor s.cfg s.mem base comp] s (txFetchSlot s base mask comp) :=
  (((assembled_dmaRead s (slotAddr base comp) descBytes).trans (assembled_processTxDesc _ _ _)).then_nil
    (assembled_setStatus _ _ true)).then_nil (assembled_setReg _ .txdmaTxdone (advance mask comp))

/-! ### The slots of a run (R233) -/

/-- The slot `k` places after the slot `start`. -/
def slotAfter (mask start : Word) (k : Nat) : Word := (start + BitVec.ofNat 32 k) &&& mask

/-- The loop assembles the descriptors of `n` slots when it reaches the kick cursor after exactly these. -/
theorem assembled_txLoop (base : Addr) {mask start kick : Word}
    (hadvance : ∀ k, advance mask (slotAfter mask start k) = slotAfter mask start (k + 1))
    (fuel j n : Nat) (s : State) (hfuel : n ≤ fuel)
    (hbefore : ∀ k < n, slotAfter mask start (j + k) ≠ kick) (hend : slotAfter mask start (j + n) = kick) :
    Assembled ((List.range' j n).map fun k => slotDescriptor s.cfg s.mem base (slotAfter mask start k)) s
      (txLoop base mask kick fuel (slotAfter mask start j) s) := by
  induction fuel generalizing j n s with
  | zero =>
    obtain rfl : n = 0 := by omega
    exact assembled_refl s
  | succ fuel ih =>
    cases n with
    | zero =>
      rw [txLoop, if_pos (show slotAfter mask start j = kick from hend)]
      exact assembled_refl s
    | succ n =>
      have hturn := assembled_txFetchSlot s base mask (slotAfter mask start j)
      have hrest := ih (j + 1) n (txFetchSlot s base mask (slotAfter mask start j)) (by omega)
        (fun k hk => by rw [Nat.add_right_comm]; exact hbefore (k + 1) (by omega))
        (by rw [Nat.add_right_comm]; exact hend)
      rw [hturn.cfg, hturn.mem] at hrest
      have hne : slotAfter mask start j ≠ kick := hbefore 0 (by omega)
      rw [txLoop, if_neg hne, hadvance]
      exact hturn.trans hrest

section
variable {cfg : Cfg} {c : Word} (h : ringSize cfg c ≤ 2 ^ 32)
include h

theorem toNat_slotAfter (start : Word) (k : Nat) :
    (slotAfter (ringMask cfg c) start k).toNat = (start.toNat + k) % ringSize cfg c := by
  rw [slotAfter, Rings.toNat_and_ringMask h, BitVec.toNat_add, BitVec.toNat_ofNat, Nat.add_mod_mod,
    Nat.mod_mod_of_dvd _ (Rings.ringSize_dvd h)]

theorem advance_slotAfter (start : Word) (k : Nat) :
    advance (ringMask cfg c) (slotAfter (ringMask cfg c) start k) =
      slotAfter (ringMask cfg c) start (k + 1) := by
  apply BitVec.eq_of_toNat_eq
  rw [Rings.toNat_advance_ringMask h, toNat_slotAfter h, toNat_slotAfter h, Nat.mod_add_mod, Nat.add_assoc]

/-- Fewer places than the ring has slots never lead to the same slot. -/
theorem slotAfter_injective (start : Word) {j k : Nat} (hj : j < ringSize cfg c) (hk : k < ringSize cfg c)
    (heq : slotAfter (ringMask cfg c) start j = slotAfter (ringMask cfg c) start k) : j = k := by
  have hmod : start.toNat + j ≡ start.toNat + k [MOD ringSize cfg c] := by
    have htoNat := congrArg BitVec.toNat heq
    rwa [toNat_slotAfter h, toNat_slotAfter h] at htoNat
  exact (Nat.ModEq.add_left_cancel' _ hmod).eq_of_lt_of_lt hj hk

/-- The distance of two cursors modulo the ring leads from the slot of the one to the slot of the other. -/
theorem slotAfter_distance (done kick : Word) :
    slotAfter (ringMask cfg c) (done &&& ringMask cfg c) ((kick - done) &&& ringMask cfg c).toNat =
      kick &&& ringMask cfg c := by
  have hsum : (done.toNat + (kick - done).toNat) % 2 ^ 32 = kick.toNat := by
    rw [← BitVec.toNat_add, BitVec.add_comm, BitVec.sub_add_cancel]
  apply BitVec.eq_of_toNat_eq
  rw [toNat_slotAfter h, Rings.toNat_and_ringMask h, Rings.toNat_and_ringMask h,
    Rings.toNat_and_ringMask h, ← Nat.add_mod, ← hsum, Nat.mod_mod_of_dvd _ (Rings.ringSize_dvd h)]

end

theorem slotAfter_zero (mask slot : Word) : slotAfter mask (slot &&& mask) 0 = slot &&& mask := by
  simp [slotAfter, BitVec.and_assoc]

/-! ### The kick -/

/-- With both enables set, `Kick()` assembles the descriptors it covers. -/
theorem assembled_kick {s : State} (hring : s.cfg.ringszBits = 3) (henabled : txEnabled s = true) :
    Assembled (kickDescriptors s) s (kick s) := by
  have hle := Rings.ringSize_le hring (getReg s .txdmaCfg)
  have hmask : (txMask s).toNat = ringSize s.cfg (getReg s .txdmaCfg) - 1 := Rings.toNat_ringMask hle
  have hrun : kickRun s < ringSize s.cfg (getReg s .txdmaCfg) := by
    rw [kickRun, txMask, Rings.toNat_and_ringMask hle]
    exact Nat.mod_lt _ (Rings.ringSize_pos _ _)
  have hend : slotAfter (txMask s) (txCursor s) (kickRun s) = getReg s .txdmaKick &&& txMask s :=
    slotAfter_distance hle _ _
  have hloop := assembled_txLoop (mask := txMask s) (txBase s) (advance_slotAfter hle (txCursor s))
    (txMask s).toNat 0 (kickRun s) s (by omega)
    (fun k hk hsame => by
      have := slotAfter_injective hle (txCursor s) (by omega) hrun (hsame.trans hend.symm)
      omega)
    (by rw [Nat.zero_add]; exact hend)
  have hstart : slotAfter (txMask s) (txCursor s) 0 = txCursor s := slotAfter_zero _ _
  rw [← List.range_eq_range', hstart] at hloop
  rw [kick, if_pos henabled]
  exact hloop.then_nil (assembled_setStatus _ _ _)

/-- Settles O39: what `Assembled` says of the kick, the result set. -/
theorem kickAssemblesTheRun : Obligations.KickAssemblesTheRun := by
  intro s hring henabled
  obtain ⟨⟨outputs, htrace, hframes⟩, hleft, -, -⟩ := assembled_kick hring henabled
  exact ⟨_, outputs, rfl, htrace, Prod.ext hframes hleft⟩

end Sys2Proof.FrameAssembly
end

section
/-! The frame of an operation (Sys2Proof/Safety.lean): `OnlyRegs rs s t`, built up one update at a time. An
update stays inside the frame when the register it writes is one of `rs`. -/
namespace Sys2Proof.Frames

open Sys2Proof.Machine Sys2Proof.Laws Sys2Proof.Claims

variable {rs : List Reg} {s t u : State}

theorem onlyRegs_refl (rs : List Reg) (s : State) : OnlyRegs rs s s :=
  ⟨fun _ _ => rfl, fun _ => rfl, fun _ => rfl, ⟨rfl, rfl⟩, rfl, rfl, rfl⟩

theorem onlyRegs_trans (h : OnlyRegs rs s t) (h' : OnlyRegs rs t u) : OnlyRegs rs s u where
  regs r hr := (h'.regs r hr).trans (h.regs r hr)
  words a := (h'.words a).trans (h.words a)
  memory a := (h'.memory a).trans (h.memory a)
  accumulator := ⟨h'.accumulator.1.trans h.accumulator.1, h'.accumulator.2.trans h.accumulator.2⟩
  inputs :=
    have ⟨hcfg, hlink, hreq⟩ := h.inputs
    have ⟨hcfg', hlink', hreq'⟩ := h'.inputs
    ⟨hcfg'.trans hcfg, hlink'.trans hlink, hreq'.trans hreq⟩

theorem onlyRegs_mono {qs : List Reg} (h : OnlyRegs rs s t) (hsub : rs ⊆ qs) : OnlyRegs qs s t :=
  { h with regs := fun r hr => h.regs r fun hmem => hr (hsub hmem) }

theorem onlyRegs_then_setResult (h : OnlyRegs rs s t) (res : Result) : OnlyRegs rs s (setResult t res) :=
  ⟨h.regs, h.words, h.memory, h.accumulator, h.inputs⟩

theorem onlyRegs_setReg {r : Reg} (h : r ∈ rs) (s : State) (v : Word) : OnlyRegs rs s (setReg s r v) :=
  { onlyRegs_refl rs s with
    regs := fun q hq => by
      have hne : r ≠ q := fun hrq => hq (hrq ▸ h)
      simp [hne] }

theorem onlyRegs_raise (rs : List Reg) (s : State) (x : LogRecord) : OnlyRegs rs s (raise s x) :=
  ⟨fun _ _ => rfl, fun _ => rfl, fun _ => rfl, ⟨rfl, rfl⟩, rfl, rfl, rfl⟩

theorem onlyRegs_evaluate (rs : List Reg) (s : State) : OnlyRegs rs s (evaluate s) :=
  ⟨fun r _ => getReg_evaluate s r, getWord_evaluate s, fun a => by rw [evaluate_mem],
    ⟨evaluate_txAcc s, evaluate_txFirstCtl s⟩, evaluate_cfg s, evaluate_linkUp s, evaluate_requests s⟩

theorem onlyRegs_setStatus (h : .gregStat ∈ rs) (s : State) (bits : Word) (on : Bool) :
    OnlyRegs rs s (setStatus s bits on) :=
  onlyRegs_trans (onlyRegs_setReg h s _) (onlyRegs_evaluate rs _)

theorem onlyRegs_clearLatched (h : .gregStat ∈ rs) (s : State) : OnlyRegs rs s (clearLatched s) :=
  onlyRegs_trans (onlyRegs_setReg h s _) (onlyRegs_evaluate rs _)

theorem onlyRegs_cascade (h : .gregStat ∈ rs) (s : State) : OnlyRegs rs s (cascade s) :=
  onlyRegs_trans (onlyRegs_trans (onlyRegs_setStatus h s _ _) (onlyRegs_setStatus h _ _ _))
    (onlyRegs_setStatus h _ _ _)

theorem onlyRegs_resetRx (h : rxResetRegs ⊆ rs) (s : State) : OnlyRegs rs s (resetRx s) :=
  onlyRegs_trans (onlyRegs_trans (onlyRegs_trans
    (onlyRegs_setReg (r := .rxdmaFsz) (h (by decide)) s _)
    (onlyRegs_setReg (r := .rxdmaDone) (h (by decide)) _ _))
    (onlyRegs_setReg (r := .rxdmaKick) (h (by decide)) _ _))
    (onlyRegs_setReg (r := .rxdmaCfg) (h (by decide)) _ _)

theorem onlyRegs_storeFrame (h : .mifFrame ∈ rs) (s : State) (v res : Word) :
    OnlyRegs rs s (storeFrame s v res) :=
  onlyRegs_trans (onlyRegs_setReg h s _) (onlyRegs_setReg h _ _)

theorem onlyRegs_miiOp (rs : List Reg) (s : State) (v : Word) : OnlyRegs rs s (miiOp s v).2 := by
  unfold miiOp
  split_ifs
  · exact onlyRegs_raise rs s _
  · exact onlyRegs_refl rs s
  · exact onlyRegs_refl rs s
  · exact onlyRegs_raise rs s _

/-- A bus write ends with no result; `RO_SET` discards it, else it has its effect (R35, R141). -/
theorem writeDone_writing (s : State) {r : Reg} {effect : State → Prop} {t : State}
    (h : effect (setResult t .none)) : ∃ u, writing s r t = .next u ∧ WriteDone r effect s u := by
  refine ⟨_, rfl, rfl, fun hro => ?_, fun hro => ?_⟩
  · rw [unlessReadOnly_of_mem _ hro]
    exact ⟨RegisterRows.onlyRegs_setResult s _, RegisterRows.silent_setResult s _⟩
  · rwa [unlessReadOnly_of_not_mem _ hro]

end Sys2Proof.Frames
end

section
/-! The reads with a rule of their own (R146, R148, R164 to R166) and the writes of one register with a mask or
an evaluation (R150, R153, R155, R172, R178). -/
namespace Sys2Proof.RuledRows

open Sys2Proof.Machine Sys2Proof.Laws Sys2Proof.Claims Sys2Proof.RegisterRows Sys2Proof.Frames

/-- Settles O10: every row returns. -/
theorem noInstructionStops : Obligations.NoInstructionStops := by
  intro i s
  obtain ⟨t, res, h, -⟩ := Effects.exec_returning i s
  exact ⟨setResult t res, h⟩

/-! ### The status words (R146, R148) -/

/-- Clearing status bits never raises the line. -/
theorem irqLevel_of_and (cfg : Cfg) {stat keep imask : Word} (h : irqLevel cfg (stat &&& keep) imask = true) :
    irqLevel cfg stat imask = true := by
  simp only [irqLevel, pendingBits, bne_iff_ne, ne_eq] at h ⊢
  intro hzero
  apply h
  calc stat &&& keep &&& ~~~ cfg.statTxnr &&& ~~~ imask
      = stat &&& ~~~ cfg.statTxnr &&& ~~~ imask &&& keep := by ac_rfl
    _ = 0#32 := by rw [hzero, BitVec.zero_and]

/-- With the latched bits cleared, the status view shows none of them outside the counter field. -/
theorem statusView_latched (cfg : Cfg) (stat txdone : Word) :
    statusView cfg (stat &&& ~~~ cfg.statLatch) txdone &&& cfg.statLatch &&& ~~~ cfg.statTxnr = 0#32 := by
  ext k hk
  simp only [statusView, BitVec.getElem_and, BitVec.getElem_or, BitVec.getElem_not, BitVec.getElem_zero]
  cases cfg.statLatch[k] <;> cases cfg.statTxnr[k] <;> simp

/-- Settles O12. -/
theorem statusReadClearsLatchedBits : Obligations.StatusReadClearsLatchedBits := by
  intro s
  have hframe : OnlyRegs [.gregStat] s (clearLatched s) := onlyRegs_clearLatched (by decide) s
  refine ⟨_, rfl, rfl, ?_, onlyRegs_then_setResult hframe _, Line.lineSettled_evaluate _, outputs_evaluate _,
    fun hsettled hirq => ?_, _, _, rfl, rfl, ?_⟩
  · simp
  · rw [hsettled]
    exact irqLevel_of_and s.cfg (by simpa using hirq)
  · simpa [statusValue] using statusView_latched s.cfg (getReg s .gregStat) (getReg s .txdmaTxdone)

/-- Settles O13. -/
theorem statusMirrorReadChangesNothing : Obligations.StatusMirrorReadChangesNothing :=
  fun s => ⟨_, _, rfl, rfl, rfl, onlyRegs_setResult s _, silent_setResult s _⟩

/-! ### The sub-status registers (R164 to R166) -/

/-- Settles O14: each is the generic read of a register of `CLEAR_ON_READ`. -/
theorem subStatusReadsClear : Obligations.SubStatusReadsClear :=
  ⟨by decide, fun s => ⟨⟨_, rfl, readDone_afterRead s (by decide)⟩,
    ⟨_, rfl, readDone_afterRead s (by decide)⟩, ⟨_, rfl, readDone_afterRead s (by decide)⟩⟩⟩

/-! ### Write masks (R153, R172, R178) -/

/-- Settles O19: the masked word is what is stored. -/
theorem maskedStoresStoreUnderTheMask : Obligations.MaskedStoresStoreUnderTheMask :=
  fun _ s => ⟨⟨_, rfl, storeDone_setReg s _ _⟩, ⟨_, rfl, storeDone_setReg s _ _⟩,
    ⟨_, rfl, storeDone_setReg s _ _⟩⟩

/-! ### The interrupt mask (R150) -/

/-- Settles O20. -/
theorem interruptMaskWriteEvaluates : Obligations.InterruptMaskWriteEvaluates := by
  refine ⟨by decide, fun v s => ⟨⟨_, rfl, readDone_afterRead s (by decide)⟩, writeDone_writing s ?_⟩⟩
  have hframe : OnlyRegs [.gregImask] s (evaluate (setReg s .gregImask v)) :=
    onlyRegs_trans (onlyRegs_setReg (by decide) s v) (onlyRegs_evaluate _ _)
  exact ⟨by simp, onlyRegs_then_setResult hframe _, Line.lineSettled_evaluate _, outputs_evaluate _⟩

/-! ### The kick (R155) -/

/-- Settles O24: the state between the store and `Kick()` is the one with the word stored. -/
theorem kickWriteStoresThenKicks : Obligations.KickWriteStoresThenKicks := by
  intro v s
  refine writeDone_writing s ⟨setReg s .txdmaKick v, ?_, onlyRegs_setReg (by decide) s v, ⟨rfl, rfl⟩, rfl, ?_⟩
  · simp
  · simp

end Sys2Proof.RuledRows
end

section
/-! Bus accesses by the place their offset selects (R101 to R103, R140, R141): offsets outside every bank, words
no register names, and all the rows together as the two pipelines. -/
namespace Sys2Proof.BusPlaces

open Sys2Proof.Machine Sys2Proof.Laws Sys2Proof.Claims Sys2Proof.Rows Sys2Proof.Encoding
  Sys2Proof.RegisterRows Sys2Proof.Frames

variable {cfg : Cfg}

/-- What the two requests of an offset that reaches the block decode to. -/
theorem decode_at {off : Word} {p : Place} (hreach : busReaches cfg 4 off.toNat = true)
    (hp : placeOf cfg off.toNat = p) (v : Word) :
    decode cfg (.port (.busRead 4)) (toLE 4 off) = .ok (readAt off p) ∧
      decode cfg (.port (.busWrite 4)) (toLE 4 off ++ toLE 4 v) = .ok (writeAt off v p) :=
  have h : selectsPlace cfg off p = true := selectsPlace_iff.mpr ⟨hreach, hp⟩
  ⟨decode_readRequest h, decode_writeRequest v h⟩

/-! ### Outside every bank (R143, R144) -/

theorem placeOf_of_unmapped {a : Nat} (h : decodeOffset cfg a = none) : placeOf cfg a = .unmapped := by
  simp [placeOf, h]

theorem onlyLogged_raise (s : State) (x : LogRecord) (res : Result) :
    OnlyLogged x s (setResult (raise s x) res) :=
  ⟨onlyRegs_then_setResult (onlyRegs_raise [] s x) res, rfl, rfl⟩

/-- Settles O15. -/
theorem unmappedOffsetsAreHarmless : Obligations.UnmappedOffsetsAreHarmless :=
  fun s _ v => ⟨fun hreach hnone => decode_at hreach (placeOf_of_unmapped hnone) v,
    ⟨_, rfl, rfl, onlyLogged_raise s _ _⟩, ⟨_, rfl, onlyLogged_raise s _ _⟩⟩

/-! ### Words no register names (R145, R181) -/

theorem placeOf_of_unnamed {a : Nat} (h : (decodeOffset cfg a).isSome = true) (hreg : regAt cfg a = none) :
    placeOf cfg a = .wol ∨ placeOf cfg a = .plain := by
  obtain ⟨x, hx⟩ := Option.isSome_iff_exists.mp h
  simp only [placeOf, hx, hreg]
  split_ifs
  · exact .inl rfl
  · exact .inr rfl

theorem exec_storageRow {p : (Word → Instr) × (Word → Word → Instr)} (hp : p ∈ storageRows) (off v : Word)
    (s : State) : exec (p.1 off) s = returning s (.word (getWord s off.toNat)) ∧
      exec (p.2 off v) s = done (setWord s off.toNat v) := by
  simp only [storageRows, List.mem_cons, List.not_mem_nil, or_false] at hp
  rcases hp with rfl | rfl <;> exact ⟨rfl, rfl⟩

/-- Settles O16: both rows read and write the word of their offset. -/
theorem unnamedWordsAreStorage : Obligations.UnnamedWordsAreStorage := by
  intro s off v
  refine ⟨fun hreach hbank hreg => ?_, fun p hp => ⟨?_, ?_⟩⟩
  · rcases placeOf_of_unnamed hbank hreg with hwol | hplain
    · exact ⟨(.rdWolWord, .wrWolWord), by simp [storageRows], decode_at hreach hwol v⟩
    · exact ⟨(.rdPlainWord, .wrPlainWord), by simp [storageRows], decode_at hreach hplain v⟩
  · exact ⟨_, (exec_storageRow hp off v s).1, rfl, onlyRegs_setResult s _, silent_setResult s _⟩
  · refine ⟨_, _, (exec_storageRow hp off v s).2, by simp, fun a ha => ?_, fun _ _ => rfl, fun _ => rfl,
      ⟨rfl, rfl⟩, ⟨rfl, rfl, rfl⟩, ⟨rfl, rfl⟩, (exec_storageRow hp off v _).1, ?_⟩
    · simp [ha.symm]
    · simp

/-! ### The pipelines (R140, R141) -/

theorem exec_readAt (s : State) (off : Word) : exec (readAt off (placeOf s.cfg off.toNat)) s =
    .next (setResult (busRead s off).2 (.word (busRead s off).1)) := by
  unfold busRead
  cases placeOf s.cfg off.toNat with
  | named r => exact exec_rdInstr r s
  | wol | plain | unmapped => rfl

theorem exec_writeAt (s : State) (off v : Word) : exec (writeAt off v (placeOf s.cfg off.toNat)) s =
    .next (setResult (busWrite s off v) .none) := by
  unfold busWrite
  cases placeOf s.cfg off.toNat with
  | named r => exact exec_wrInstr r v s
  | wol | plain | unmapped => rfl

/-- Settles O25, by the place the offset selects. -/
theorem busAccessFollowsTheStages : Obligations.BusAccessFollowsTheStages := by
  intro s off v _ hreach
  obtain ⟨hread, hwrite⟩ := decode_at hreach rfl v
  exact ⟨⟨_, hread, exec_readAt s off⟩, ⟨_, hwrite, exec_writeAt s off v⟩⟩

end Sys2Proof.BusPlaces
end

section
/-! The aggregate bits (R168, R192 to R195): `Cascade()` derives each from its own sub-status and sub-mask
registers, and the three masks do not overlap (R10), so no later bit disturbs an earlier one. -/
namespace Sys2Proof.Aggregates

open Sys2Proof.Machine Sys2Proof.Laws Sys2Proof.Claims Sys2Proof.Frames

/-! ### Bits of a status word (R200) -/

theorem withBits_and_self (stat bits : Word) (on : Bool) :
    withBits stat bits on &&& bits = if on then bits else 0#32 := by
  cases on with
  | false => simp [withBits, BitVec.and_assoc]
  | true => ext k hk; simp [withBits]; grind

/-- Bits set or cleared outside a mask do not show under it. -/
theorem withBits_and_of_disjoint {bits m : Word} (h : bits &&& m = 0#32) (stat : Word) (on : Bool) :
    withBits stat bits on &&& m = stat &&& m := by
  ext k hk
  have hk := congrArg (·[k]) h
  simp only [BitVec.getElem_and, BitVec.getElem_zero] at hk
  cases on <;> simp [withBits] <;> grind

/-- The masks of the aggregate bits do not overlap (R10). -/
theorem aggregates_disjoint {cfg : Cfg} (h : cfg.wellFormed = true) :
    cfg.statTxMac &&& cfg.statRxMac = 0#32 ∧ cfg.statTxMac &&& cfg.statMac = 0#32 ∧
      cfg.statRxMac &&& cfg.statMac = 0#32 := by
  simp only [Cfg.wellFormed, Cfg.masksDisjoint, Bool.and_eq_true] at h
  obtain ⟨⟨⟨-, ⟨⟨⟨⟨⟨⟨⟨hstat, -⟩, -⟩, -⟩, -⟩, -⟩, -⟩, -⟩⟩, -⟩, -⟩ := h
  simp only [Cfg.statMasks, disjointMasks, Bool.and_eq_true, List.all_cons, beq_iff_eq] at hstat
  simp_all

/-! ### The status word -/

theorem aggregatesCurrent_cascade {s : State} (h : s.cfg.wellFormed = true) :
    AggregatesCurrent (cascade s) := by
  obtain ⟨htxrx, htx, hrx⟩ := aggregates_disjoint h
  have hrxtx : s.cfg.statRxMac &&& s.cfg.statTxMac = 0#32 := by rw [BitVec.and_comm, htxrx]
  have hmtx : s.cfg.statMac &&& s.cfg.statTxMac = 0#32 := by rw [BitVec.and_comm, htx]
  have hmrx : s.cfg.statMac &&& s.cfg.statRxMac = 0#32 := by rw [BitVec.and_comm, hrx]
  simp only [AggregatesCurrent, cascade_cfg, getReg_cascade_stat]
  refine ⟨?_, ?_, ?_⟩
  · rw [withBits_and_of_disjoint hmtx, withBits_and_of_disjoint hrxtx, withBits_and_self]
    simp [subPending]
  · rw [withBits_and_of_disjoint hmrx, withBits_and_self]
    simp [subPending]
  · rw [withBits_and_self]
    simp [subPending]

theorem aggregate_and_other (cfg : Cfg) : ∀ b ∈ [cfg.statTxMac, cfg.statRxMac, cfg.statMac],
    b &&& ~~~ (cfg.statTxMac ||| cfg.statRxMac ||| cfg.statMac) = 0#32 := by
  intro b hb
  rw [Invariants.and_eq_zero_iff]
  intro k hk
  simp only [List.mem_cons, List.not_mem_nil, or_false] at hb
  rcases hb with rfl | rfl | rfl <;> simp [hk]

theorem otherStatus_cascade (s : State) :
    otherStatus s.cfg (getReg (cascade s) .gregStat) = otherStatus s.cfg (getReg s .gregStat) := by
  have hother := aggregate_and_other s.cfg
  simp only [otherStatus, getReg_cascade_stat]
  rw [withBits_and_of_disjoint (hother _ (by simp)), withBits_and_of_disjoint (hother _ (by simp)),
    withBits_and_of_disjoint (hother _ (by simp))]

/-! ### The outputs -/

/-- The outputs from `s` to `t` are changes of the line only, at most `n`. -/
def LineChanges (n : Nat) (s t : State) : Prop :=
  ∃ levels : List Bool, levels.length ≤ n ∧ t.trace = s.trace ++ levels.map Event.irq

theorem LineChanges.trans {m n : Nat} {s t u : State} (h : LineChanges m s t) (h' : LineChanges n t u) :
    LineChanges (m + n) s u := by
  obtain ⟨levels, hlen, htrace⟩ := h
  obtain ⟨levels', hlen', htrace'⟩ := h'
  exact ⟨levels ++ levels', by rw [List.length_append]; omega, by simp [htrace, htrace']⟩

theorem lineChanges_setStatus (s : State) (bits : Word) (on : Bool) : LineChanges 1 s (setStatus s bits on) := by
  have h : OutputsThenLine [] s (setStatus s bits on) :=
    TransmitOutputs.outputsThenLine_setStatus (List.append_nil _).symm rfl bits on
  unfold OutputsThenLine at h
  split_ifs at h
  · exact ⟨[], Nat.zero_le _, by simpa using h⟩
  · exact ⟨[_], Nat.le_refl _, by simpa using h⟩

theorem lineChanges_cascade (s : State) : AtMostThreeLineChanges s (cascade s) :=
  ((lineChanges_setStatus s _ _).trans (lineChanges_setStatus _ _ _)).trans (lineChanges_setStatus _ _ _)

/-- `Cascade()` (R192 to R195). -/
theorem cascaded_cascade {s : State} (h : s.cfg.wellFormed = true) : Cascaded s (cascade s) :=
  ⟨aggregatesCurrent_cascade h, otherStatus_cascade s, Line.lineSettled_cascade s, lineChanges_cascade s⟩

/-! ### The sub-mask writes (R168) -/

/-- The store of another register keeps the status word the cascade starts from. -/
theorem cascaded_after_store {s : State} (h : s.cfg.wellFormed = true) {r : Reg} (hr : r ≠ .gregStat)
    (v : Word) : Cascaded s (cascade (setReg s r v)) := by
  obtain ⟨hcurrent, hother, hline, hchanges⟩ := cascaded_cascade (s := setReg s r v) h
  exact ⟨hcurrent, by simpa [hr] using hother, hline, hchanges⟩

theorem subMaskWrite_done {s : State} (h : s.cfg.wellFormed = true) {r : Reg} (hr : r ≠ .gregStat) (v : Word) :
    ∃ t, writing s r (cascade (setReg s r v)) = .next t ∧
      WriteDone r (fun t => getReg t r = v ∧ OnlyRegs [r, .gregStat] s t ∧ Cascaded s t) s t := by
  have hframe : OnlyRegs [r, .gregStat] s (cascade (setReg s r v)) :=
    onlyRegs_trans (onlyRegs_setReg (by simp) s v) (onlyRegs_cascade (by simp) _)
  exact writeDone_writing s ⟨by simp [hr], onlyRegs_then_setResult hframe _, cascaded_after_store h hr v⟩

/-- Settles O22: each sub-mask write is the store and then `Cascade()`. -/
theorem subMaskWritesDeriveAggregates : Obligations.SubMaskWritesDeriveAggregates := by
  intro v s h p hp
  simp only [List.mem_cons, List.not_mem_nil, or_false] at hp
  rcases hp with rfl | rfl | rfl
  · exact subMaskWrite_done h (by decide) v
  · exact subMaskWrite_done h (by decide) v
  · exact subMaskWrite_done h (by decide) v

end Sys2Proof.Aggregates
end

section
/-! Software reset (R154, R341 to R343): the store of the word, then the reset its request bits ask for. Each row
of the data word is the bus write that carries it (log entry 26). -/
namespace Sys2Proof.SoftwareReset

open Sys2Proof.Machine Sys2Proof.Laws Sys2Proof.Claims Sys2Proof.Frames

/-! ### What each reset leaves (R341 to R343) -/

theorem rxAtReset_resetRx (s : State) : RxAtReset (resetRx s) := by
  simpa [RxAtReset] using getReg_resetRx_regs s

theorem txAtReset_resetTx (s : State) : TxAtReset (resetTx s) := by
  simpa [TxAtReset] using getReg_resetTx_regs s

theorem regsKept_resetTx (s : State) : RegsKept txResetRegs s (resetTx s) := by
  intro r hr
  simp only [txResetRegs, List.mem_cons, List.not_mem_nil, or_false, not_or] at hr
  obtain ⟨hfsz, hdone, hkick, hcfg⟩ := hr
  exact getReg_resetTx s r hfsz hdone hkick hcfg

/-- The registers a full reset that software asks for writes (R343). -/
def softResetRegs : List Reg := rxResetRegs ++ txResetRegs ++ [.gregImask, .gregStat, .gregSwrst, .mifCfg]

theorem regsKept_resetAll_false (s : State) : RegsKept softResetRegs s (resetAll s false) := by
  intro r hr
  obtain ⟨haddr0, haddr1, haddr2⟩ := getReg_resetAll_station s false
  by_cases hstation : r ∈ [Reg.macAddr0, .macAddr1, .macAddr2]
  · simp only [List.mem_cons, List.not_mem_nil, or_false] at hstation
    rcases hstation with rfl | rfl | rfl
    · exact haddr0
    · exact haddr1
    · exact haddr2
  · exact getReg_resetAll s false r (by simp_all [softResetRegs, rxResetRegs, txResetRegs])

/-- A full reset ends in `Evaluate()`, its only output. -/
theorem outputs_resetAll (s : State) (b : Bool) : OutputsThenLine [] s (resetAll s b) := by
  have h (u : State) (htrace : u.trace = s.trace) (hirq : u.irq = s.irq) :
      OutputsThenLine [] s (evaluate u) := by
    simpa [OutputsThenLine, htrace, hirq] using RegisterRows.outputs_evaluate u
  cases b with
  | false => exact h _ (by simp) (by simp)
  | true => exact h _ (by simp) (by simp)

/-! ### The reset after the store (R154) -/

theorem regsKept_of_store {s t : State} {rs : List Reg} {v : Word} (hmem : .gregSwrst ∈ rs)
    (h : RegsKept rs (storeSwrst s v) t) : RegsKept rs s t := by
  intro r hr
  have hne : Reg.gregSwrst ≠ r := fun hrw => hr (hrw ▸ hmem)
  simpa [storeSwrst, hne] using h r hr

theorem softResetAllDone (v : Word) (s : State) : SoftResetAllDone v s (resetAll (storeSwrst s v) false) := by
  refine ⟨PowerOn.allAtReset_resetAll _ false, ?_, ?_, fun a => ?_, fun a => ?_, ?_, ?_⟩
  · obtain ⟨-, -, -, hswrst⟩ := getReg_resetAll_regs (storeSwrst s v) false
    simpa [storeSwrst] using hswrst
  · exact regsKept_of_store (by decide) (regsKept_resetAll_false _)
  · simp [storeSwrst]
  · simp [storeSwrst]
  · simp [InputsKept, storeSwrst]
  · exact outputs_resetAll (storeSwrst s v) false

theorem softResetDone (v : Word) (s : State) (res : Result) :
    SoftResetDone v s (setResult (softReset (storeSwrst s v) v) res) := by
  have hcfg : (storeSwrst s v).cfg = s.cfg := rfl
  have hstore : OnlyRegs [.gregSwrst] s (storeSwrst s v) := onlyRegs_setReg (by decide) s v
  unfold SoftResetDone softReset
  rw [hcfg]
  cases swrstKind s.cfg v with
  | all => exact softResetAllDone v s
  | rx =>
    have hframe : OnlyRegs (.gregSwrst :: rxResetRegs) s (resetRx (storeSwrst s v)) :=
      onlyRegs_trans (onlyRegs_mono hstore (by simp)) (onlyRegs_resetRx (by simp) _)
    exact ⟨by simp [storeSwrst], rxAtReset_resetRx _, onlyRegs_then_setResult hframe res,
      by simp [Silent, storeSwrst]⟩
  | tx =>
    refine ⟨by simp [storeSwrst], txAtReset_resetTx _, ?_, fun a => by simp [storeSwrst],
      fun a => by simp [storeSwrst], by simp [InputsKept, storeSwrst], by simp [Silent, storeSwrst]⟩
    refine regsKept_of_store (by simp) fun r hr => regsKept_resetTx _ r ?_
    exact fun hmem => hr (List.mem_cons_of_mem _ hmem)
  | none => exact ⟨by simp [storeSwrst], onlyRegs_then_setResult hstore res, rfl, rfl⟩

/-! ### The rows of the data word -/

/-- The row of a word does what the bus write that carries the word does. -/
theorem exec_swrstInstr (v : Word) (s : State) : exec (swrstInstr s.cfg v) s = exec (.wrGregSwrst v) s := by
  have hwrite : exec (.wrGregSwrst v) s = writing s .gregSwrst (softReset (storeSwrst s v) v) := rfl
  have hcfg : (storeSwrst s v).cfg = s.cfg := rfl
  rw [hwrite, softReset, swrstInstr, hcfg]
  cases swrstKind s.cfg v <;> rfl

theorem and_three (v : Word) : v &&& 3#32 =
    (if v.getLsbD 0 then 1#32 else 0#32) ||| (if v.getLsbD 1 then 2#32 else 0#32) := by
  have hthree : 3#32 = BitVec.twoPow 32 0 ||| BitVec.twoPow 32 1 := rfl
  rw [hthree, BitVec.and_or_distrib_left, BitVec.and_twoPow, BitVec.and_twoPow]
  rfl

theorem swrstKind_default (v : Word) : swrstKind defaultCfg v =
    (if v.getLsbD 0 then (if v.getLsbD 1 then .all else .tx) else if v.getLsbD 1 then .rx else .none) := by
  have hmask : defaultCfg.swrstTxrst ||| defaultCfg.swrstRxrst = 3#32 := rfl
  simp only [swrstKind, hmask, and_three]
  cases v.getLsbD 0 <;> cases v.getLsbD 1 <;> rfl

/-- Settles O23. -/
theorem softwareResetByRequestBits : Obligations.SoftwareResetByRequestBits := by
  intro v s
  have hwrite : ∃ t, exec (.wrGregSwrst v) s = .next t ∧
      WriteDone .gregSwrst (SoftResetDone v s) s t :=
    writeDone_writing s (softResetDone v s _)
  refine ⟨hwrite, fun p hp hkind => ?_, swrstKind_default v⟩
  have hrow : p.1 = swrstInstr s.cfg v := by
    rw [swrstInstr, hkind]
    simp only [List.mem_cons, List.not_mem_nil, or_false] at hp
    rcases hp with rfl | rfl | rfl | rfl <;> rfl
  rwa [hrow, exec_swrstInstr]

end Sys2Proof.SoftwareReset
end

section
/-! Management frames (R177, R211 to R217): `MiiOp` by its result and its events, the write of MIF_FRAME as the
store of that result, and each row of the data word as the bus write that carries it (log entry 26). -/
namespace Sys2Proof.ManagementFrames

open Sys2Proof.Machine Sys2Proof.Laws Sys2Proof.Claims Sys2Proof.Frames Sys2Proof.Encoding

theorem miiOp_word (s : State) (v : Word) : (miiOp s v).1 = frameResult s v := by
  unfold miiOp frameResult mifOpWrite mifOpRead
  split_ifs <;> rfl

theorem miiOp_trace (s : State) (v : Word) : (miiOp s v).2.trace = s.trace ++ frameEvents s v := by
  unfold miiOp frameEvents mifOpWrite mifOpRead
  split_ifs <;> simp_all

/-- The operation on a frame of each kind (R211 to R217). -/
def answerOf (s : State) (v : Word) : MifKind → Word × State
  | .write => (mifWriteResult s v, s)
  | .read => (mifReadResult s (mifPhy s.cfg v) (mifReg s.cfg v), s)
  | .badOp => (allOnes, raise s (.miiInvalidOp (mifOpcode s.cfg v)))
  | .badTag => (allOnes, raise s (.miiInvalidStart (mifTag s.cfg v)))

theorem miiOp_eq_answerOf (s : State) (v : Word) : miiOp s v = answerOf s v (mifKind s.cfg v) := by
  unfold miiOp mifKind
  split_ifs <;> rfl

/-- The store of the word comes before or after the operation: the operation does not read MIF_FRAME. -/
theorem writeMifFrame_eq (s : State) (v : Word) :
    writeMifFrame s v = storeFrame (miiOp s v).2 v (miiOp s v).1 := by
  simp only [writeMifFrame, storeFrame, miiOp_eq_answerOf, setReg_cfg]
  cases mifKind s.cfg v <;> rfl

/-- The bus write of MIF_FRAME (R177). -/
theorem managementDone_wrMifFrame (v : Word) (s : State) :
    ∃ t, exec (.wrMifFrame v) s = .next t ∧ ManagementDone v s t := by
  have hframe : OnlyRegs [.mifFrame] s (writeMifFrame s v) := by
    rw [writeMifFrame_eq]
    exact onlyRegs_trans (onlyRegs_miiOp _ s v) (onlyRegs_storeFrame (by decide) _ _ _)
  refine writeDone_writing s ⟨?_, onlyRegs_then_setResult hframe _, ?_, ?_⟩
  · simp [miiOp_word]
  · simp
  · simp [writeMifFrame_eq, miiOp_trace]

/-! ### The rows of the data word -/

theorem mifKind_eq_write {cfg : Cfg} {v : Word} :
    mifKind cfg v = .write ↔ mifTag cfg v = cfg.mifStValid ∧ mifOpcode cfg v = 1#32 := by
  unfold mifKind
  split_ifs <;> simp_all [mifOpWrite]

/-- The row of a word does what the bus write that carries the word does. -/
theorem exec_mifInstr (v : Word) (s : State) : exec (mifInstr s.cfg v) s = exec (.wrMifFrame v) s := by
  have hwrite : exec (.wrMifFrame v) s =
      writing s .mifFrame (storeFrame (miiOp s v).2 v (miiOp s v).1) := by
    rw [← writeMifFrame_eq]
    rfl
  rw [hwrite, miiOp_eq_answerOf, mifInstr]
  cases hkind : mifKind s.cfg v with
  | write | read => rfl
  | badOp =>
    dsimp only
    split_ifs
    · rfl
    · rfl
    · rw [hwrite, miiOp_eq_answerOf, hkind]
  | badTag =>
    dsimp only
    split_ifs
    · rfl
    · rfl
    · rfl
    · rw [hwrite, miiOp_eq_answerOf, hkind]

/-- Settles O33: under its hypotheses each row is the one the word decodes to. -/
theorem managementFrameResult : Obligations.ManagementFrameResult := by
  intro v s
  have done {i : Instr} (hrow : mifInstr s.cfg v = i) : ∃ t, exec i s = .next t ∧ ManagementDone v s t := by
    rw [← hrow, exec_mifInstr]
    exact managementDone_wrMifFrame v s
  refine ⟨managementDone_wrMifFrame v s, fun htag => ?_, fun htag => ?_⟩
  · refine ⟨fun hop => done ?_, fun hop => done ?_, fun hop => done ?_, fun hop => done ?_⟩
    · simp [mifInstr, mifKind_eq_write.mpr ⟨htag, hop⟩]
    · simp [mifInstr, mifKind_eq_read.mpr ⟨htag, hop⟩]
    · have hkind : mifKind s.cfg v = .badOp := mifKind_eq_badOp.mpr ⟨htag, by simp [hop], by simp [hop]⟩
      simp [mifInstr, hkind, hop]
    · have hkind : mifKind s.cfg v = .badOp := mifKind_eq_badOp.mpr ⟨htag, by simp [hop], by simp [hop]⟩
      simp [mifInstr, hkind, hop]
  · have hkind : mifKind s.cfg v = .badTag := mifKind_eq_badTag.mpr htag
    refine ⟨fun hval => done ?_, fun hval => done ?_, fun hval => done ?_⟩ <;> simp [mifInstr, hkind, hval]

end Sys2Proof.ManagementFrames
end

section
/-! A write and then a read of one register (R182). -/
namespace Sys2Proof.ReadBack

open Sys2Proof.Machine Sys2Proof.Laws Sys2Proof.Claims Sys2Proof.Rows Sys2Proof.RegisterRows

/-- What a register outside `RO_SET` holds after a bus write of `v` (R141): the word under its write mask, but for
the registers whose write has an answer of its own. -/
def wordAfterWrite (s : State) (v : Word) : Reg → Word
  | .gregIack => getReg s .gregIack
  | .mifFrame => (miiOp s v).1
  | .gregSwrst => if swrstKind s.cfg v = .all then v &&& s.cfg.swrstRstout else v
  | r => maskWrite s.cfg r v

theorem getReg_softReset_swrst (s : State) (v : Word) : getReg (softReset s v) .gregSwrst =
    if swrstKind s.cfg v = .all then getReg s .gregSwrst &&& s.cfg.swrstRstout else getReg s .gregSwrst := by
  obtain ⟨-, -, -, hall⟩ := getReg_resetAll_regs s false
  unfold softReset
  cases swrstKind s.cfg v with
  | all => simpa using hall
  | rx | tx | none => simp

/-- No effect after the store but the two that answer writes the register again (R141). -/
theorem getReg_afterStore_self (s : State) {r : Reg} (w : Word) (hmif : r ≠ .mifFrame)
    (hswrst : r ≠ .gregSwrst) : getReg (afterStore (setReg s r w) r w) r = w := by
  unfold afterStore
  split
  · simp
  · exact absurd rfl hswrst
  · simp
  · simp
  · simp
  · simp
  · exact absurd rfl hmif
  · simp

theorem wordAfterWrite_of_masked (s : State) (v : Word) {r : Reg} (hack : r ≠ .gregIack)
    (hmif : r ≠ .mifFrame) (hswrst : r ≠ .gregSwrst) : wordAfterWrite s v r = maskWrite s.cfg r v := by
  unfold wordAfterWrite
  split
  · exact absurd rfl hack
  · exact absurd rfl hmif
  · exact absurd rfl hswrst
  · rfl

theorem wordAfterWrite_of_unmasked (s : State) (v : Word) {r : Reg}
    (hr : r ∉ [Reg.gregIack, .mifCfg, .gregPciemask, .macMinfsz, .mifFrame, .gregSwrst]) :
    wordAfterWrite s v r = v := by
  simp only [List.mem_cons, List.not_mem_nil, or_false, not_or] at hr
  obtain ⟨hack, hcfg, hpcie, hminfsz, hmif, hswrst⟩ := hr
  rw [wordAfterWrite_of_masked s v hack hmif hswrst]
  unfold maskWrite
  split
  · exact absurd rfl hcfg
  · exact absurd rfl hpcie
  · exact absurd rfl hminfsz
  · rfl

theorem getReg_busWriteReg_self (s : State) {r : Reg} (v : Word) (hro : r ∉ s.cfg.roSet) :
    getReg (busWriteReg s r v) r = wordAfterWrite s v r := by
  rw [busWriteReg, unlessReadOnly_of_not_mem _ hro]
  by_cases hack : r = .gregIack
  · subst hack
    simp [wordAfterWrite]
  rw [if_neg hack]
  by_cases hswrst : r = .gregSwrst
  · subst hswrst
    simp [maskWrite, afterStore, getReg_softReset_swrst, wordAfterWrite]
  by_cases hmif : r = .mifFrame
  · subst hmif
    simpa [maskWrite, afterStore, wordAfterWrite] using
      miiOp_result_congr (setReg s .mifFrame v) s v rfl rfl
  rw [wordAfterWrite_of_masked s v hack hmif hswrst]
  exact getReg_afterStore_self s _ hmif hswrst

/-! ### The read (R140) -/

/-- A read that has no rule of its own for the value returns the stored word. -/
theorem busReadReg_word (s : State) {r : Reg} (hstat : r ≠ .gregStat) (hstat2 : r ≠ .gregStat2) :
    (busReadReg s r).1 = getReg s r := by
  unfold busReadReg
  split
  · exact absurd rfl hstat
  · exact absurd rfl hstat2
  · rfl

theorem busReadReg_word_setResult (s : State) (r : Reg) (res : Result) :
    (busReadReg (setResult s res) r).1 = (busReadReg s r).1 := by
  unfold busReadReg
  split <;> rfl

/-- The result of a read after a write is that of the read pipeline after the write pipeline. -/
theorem result_of_write_read {s t u : State} {r : Reg} {v : Word} (ht : exec (wrInstr v r) s = .next t)
    (hu : exec (rdInstr r) t = .next u) : u.result = .word (busReadReg (busWriteReg s r v) r).1 := by
  cases (exec_wrInstr r v s).symm.trans ht
  cases (exec_rdInstr r _).symm.trans hu
  exact congrArg Result.word (busReadReg_word_setResult _ r _)

/-- Settles O26: outside `RO_SET` the read returns the word the write left, case by case. -/
theorem writtenWordReadsBack : Obligations.WrittenWordReadsBack := by
  intro s t u r v ht hu
  have hresult := result_of_write_read ht hu
  refine ⟨fun hro w hw => ?_, fun hro => ?_⟩
  · cases (exec_rdInstr r s).symm.trans hw
    rw [hresult, busWriteReg_of_mem s v hro]
    rfl
  · have hword (hstat : r ≠ .gregStat) (hstat2 : r ≠ .gregStat2) : u.result = .word (wordAfterWrite s v r) := by
      rw [hresult, busReadReg_word _ hstat hstat2, getReg_busWriteReg_self s v hro]
    refine ⟨fun hr => ?plain, ?_, ?_, ?_, ?_, fun hmif w hw => ?frame, ?_⟩
    case plain =>
      rw [List.mem_cons, List.mem_cons, not_or, not_or] at hr
      obtain ⟨hstat, hstat2, hr⟩ := hr
      rw [hword hstat hstat2, wordAfterWrite_of_unmasked s v hr]
    case frame =>
      subst hmif
      cases hw
      exact hword (by decide) (by decide)
    all_goals
      rintro rfl
      exact hword (by decide) (by decide)

end Sys2Proof.ReadBack
end

section
/-! The procedures of the interrupt aggregator, each run by itself (R190 to R200), and the acknowledge from the
bus (R198). Each ends in `Evaluate()`, which settles the line; all but the cascade, which evaluates three times,
output no more than one change of it. -/
namespace Sys2Proof.Aggregator

open Sys2Proof.Machine Sys2Proof.Laws Sys2Proof.Claims Sys2Proof.Frames Sys2Proof.RegisterRows

/-! ### The cascade (R192 to R195) -/

/-- Settles O31: the cascade writes GREG_STAT only, and the aggregate masks do not overlap. -/
theorem cascadeDerivesAggregates : Obligations.CascadeDerivesAggregates := by
  intro s hwf
  have hframe : OnlyRegs [.gregStat] s (cascade s) := onlyRegs_cascade (by decide) s
  exact ⟨_, rfl, onlyRegs_then_setResult hframe _, Aggregates.cascaded_cascade hwf⟩

/-! ### The acknowledge (R198) -/

/-- What `Ack(v)` leaves: the named latched bits are cleared, the line is settled. -/
def Acknowledged (v : Word) (s t : State) : Prop :=
  getReg t .gregStat = getReg s .gregStat &&& ~~~ (v &&& s.cfg.statLatch) ∧
    OnlyRegs [.gregStat] s t ∧ LineSettled t ∧ OutputsThenLine [] s t

theorem acknowledged_acknowledge (v : Word) (s : State) :
    Acknowledged v s (setResult (acknowledge s v) .none) := by
  have hframe : OnlyRegs [.gregStat] s (acknowledge s v) :=
    onlyRegs_trans (onlyRegs_setReg (by decide) s _) (onlyRegs_evaluate _ _)
  exact ⟨by simp, onlyRegs_then_setResult hframe _, Line.lineSettled_acknowledge s v, outputs_evaluate _⟩

/-- Settles O21: the row and the bus write share the one effect. -/
theorem acknowledgeClearsLatchedBits : Obligations.AcknowledgeClearsLatchedBits :=
  ⟨by decide, fun v s => ⟨⟨_, rfl, acknowledged_acknowledge v s⟩,
    writeDone_writing (effect := Acknowledged v s) s (acknowledged_acknowledge v s)⟩⟩

/-! ### The evaluation (R191) -/

/-- Settles O29: the second evaluation finds the line settled by the first. -/
theorem evaluateSetsTheLine : Obligations.EvaluateSetsTheLine := by
  intro s
  have hsettled : LineSettled (setResult (evaluate s) .none) := Line.lineSettled_evaluate s
  have hagain : exec .evaluate (setResult (evaluate s) .none) =
      .next (setResult (setResult (evaluate s) .none) .none) :=
    congrArg done (evaluate_of_settled _ hsettled)
  refine ⟨_, _, rfl, ?line, onlyRegs_then_setResult (onlyRegs_evaluate [] s) _, outputs_evaluate s,
    hagain, onlyRegs_setResult _ _, silent_setResult _ _⟩
  case line =>
    rw [setResult_irq, evaluate_irq, Bool.eq_iff_iff]
    simp [irqLevel, pendingBits]

/-! ### The update of the status word (R200) -/

/-- Settles O30: one update of GREG_STAT, then `Evaluate()`. -/
theorem setStatusSetsOrClears : Obligations.SetStatusSetsOrClears := by
  intro bits on s
  have hframe : OnlyRegs [.gregStat] s (setStatus s bits on) := onlyRegs_setStatus (by decide) s bits on
  refine ⟨_, rfl, ?status, onlyRegs_then_setResult hframe _, Line.lineSettled_setStatus s bits on,
    outputs_evaluate _⟩
  case status =>
    rw [getReg_setResult, getReg_setStatus, if_pos rfl]
    rfl

end Sys2Proof.Aggregator
end

section
/-! The transceiver stub (R211, R216 to R221): the rows of a management read by register index, the values of the
default table, the operation run by itself, and the link input. -/
namespace Sys2Proof.TransceiverStub

open Sys2Proof.Machine Sys2Proof.Laws Sys2Proof.Claims Sys2Proof.Frames Sys2Proof.Encoding
  Sys2Proof.ManagementFrames

/-! ### The rows by register index (R216 to R218) -/

/-- A listed row is the bus write of MIF_FRAME with the value of its own register, whatever the word selects. -/
theorem exec_phyRow {p : (Word → Instr) × Nat} (hp : p ∈ phyRows) (v : Word) (s : State) :
    exec (p.1 v) s = writing s .mifFrame (readPhyReg v p.2 s) := by
  simp only [phyRows, List.mem_cons, List.not_mem_nil, or_false] at hp
  rcases hp with rfl | rfl | rfl | rfl | rfl | rfl | rfl <;> rfl

/-- The row for the other indices takes the register from the word, as the row of a read frame does. -/
theorem exec_phyregOther (v : Word) (s : State) : exec (.phyregOther v) s = exec (.mifRead v) s := rfl

/-- On a word that selects its register, a listed row is the row of a read frame. -/
theorem exec_phyRow_of_selected {p : (Word → Instr) × Nat} (hp : p ∈ phyRows) {v : Word} {s : State}
    (hreg : mifReg s.cfg v = p.2) : exec (p.1 v) s = exec (.mifRead v) s := by
  rw [exec_phyRow hp, ← hreg]
  rfl

/-! ### The default table (R216; decision D25) -/

theorem phyTableValue_of_unlisted {cfg : Cfg} (h : cfg.phyTable = defaultPhyTable) (linkUp : Bool) {reg : Nat}
    (hreg : reg ∉ listedPhyRegs) : phyTableValue cfg linkUp reg = 0#16 := by
  have hnone : defaultPhyTable.find? (fun e => e.reg == reg) = none := by
    refine List.find?_eq_none.mpr fun e he heq => hreg ?_
    have hlisted : ∀ e ∈ defaultPhyTable, e.reg ∈ listedPhyRegs := by decide
    exact beq_iff_eq.mp heq ▸ hlisted e he
  rw [phyTableValue, h, hnone]

theorem phyDefault_of_unlisted (linkUp : Bool) {reg : Nat} (hreg : reg ∉ listedPhyRegs) :
    phyDefault linkUp reg = 0#32 := by
  unfold phyDefault
  split
  case h_7 => rfl
  all_goals exact absurd (by decide) hreg

theorem phyTableValue_default {cfg : Cfg} (h : cfg.phyTable = defaultPhyTable) (linkUp : Bool) (reg : Nat) :
    (phyTableValue cfg linkUp reg).setWidth 32 = phyDefault linkUp reg := by
  by_cases hreg : reg ∈ listedPhyRegs
  · rw [phyTableValue, h]
    simp only [listedPhyRegs, List.mem_cons, List.not_mem_nil, or_false] at hreg
    rcases hreg with rfl | rfl | rfl | rfl | rfl | rfl | rfl <;> cases linkUp <;> rfl
  · rw [phyTableValue_of_unlisted h linkUp hreg, phyDefault_of_unlisted linkUp hreg]
    rfl

/-- A read frame of the default table; another bus address reads all ones in the data bits (R218). -/
theorem phyRead_default {cfg : Cfg} (h : cfg.phyTable = defaultPhyTable) (linkUp : Bool) (phy reg : Nat) :
    (phyRead cfg linkUp phy reg).setWidth 32 =
      if phy = cfg.phyAddr.toNat then phyDefault linkUp reg else 0xFFFF#32 := by
  unfold phyRead
  split_ifs
  · exact phyTableValue_default h linkUp reg
  · rfl

theorem frameResult_read {s : State} {v : Word} (htag : mifTag s.cfg v = s.cfg.mifStValid)
    (hop : mifOpcode s.cfg v = 2#32) : frameResult s v =
      (phyRead s.cfg s.linkUp (mifPhy s.cfg v) (mifReg s.cfg v)).setWidth 32 ||| s.cfg.mifAck := by
  simp [frameResult, htag, hop]

/-- Settles O34: each row is the row of a read frame on the word that selects it. -/
theorem transceiverRegisterReads : Obligations.TransceiverRegisterReads := by
  intro v s htag hop
  have hread : ∃ t, exec (.mifRead v) s = .next t ∧ ManagementDone v s t := by
    obtain ⟨-, hvalid, -⟩ := managementFrameResult v s
    obtain ⟨-, hread, -⟩ := hvalid htag
    exact hread hop
  refine ⟨fun p hp hreg => ?_, ?_, fun htable => ?_⟩
  · rwa [exec_phyRow_of_selected hp hreg]
  · rwa [exec_phyregOther]
  · rw [frameResult_read htag hop, phyRead_default htable]

/-! ### The operation by itself (R211) -/

/-- Settles O35. -/
theorem miiOpReturnsTheStoredWord : Obligations.MiiOpReturnsTheStoredWord :=
  fun v s => ⟨setResult (miiOp s v).2 (.word (miiOp s v).1), rfl, congrArg Result.word (miiOp_word s v),
    onlyRegs_then_setResult (onlyRegs_miiOp [] s v) _, miiOp_irq s v, miiOp_trace s v⟩

/-! ### The link input (R221) -/

/-- Settles O36: the link flag is the one field that `SetLink` writes besides the result. -/
theorem setLinkSetsOnlyTheFlag : Obligations.SetLinkSetsOnlyTheFlag :=
  fun b s => ⟨setResult (setLinkUp s b) .none, rfl, setLinkUp_linkUp s b, fun r _ => getReg_setLinkUp s b r,
    fun a => getWord_setLinkUp s b a, fun a => congrArg (readByte · a) (setLinkUp_mem s b),
    ⟨setLinkUp_txAcc s b, setLinkUp_txFirstCtl s b⟩, setLinkUp_cfg s b, setLinkUp_requests s b,
    ⟨setLinkUp_irq s b, setLinkUp_trace s b⟩⟩

end Sys2Proof.TransceiverStub
end

section
/-! The transmit engine's cursor and completion bits (R231, R233, R236 to R241, R246 to R250): a disabled kick,
one descriptor, and the run of an enabled kick as that many turns of its loop one after the other. -/
namespace Sys2Proof.TransmitRun

open Sys2Proof.Machine Sys2Proof.Laws Sys2Proof.Claims Sys2Proof.TransmitOutputs Sys2Proof.FrameAssembly
  Sys2Proof.Frames Sys2Proof.BusPlaces

/-! ### A disabled kick (R231) -/

theorem kick_of_disabled {s : State} (h : txEnabled s = false) : kick s = raise s .txDisabled := by
  simp [kick, h]

theorem txEnabled_eq_false {s : State} (h : getReg s .txdmaCfg &&& s.cfg.dmacfgEnable = 0#32 ∨
    getReg s .macTxcfg &&& s.cfg.macTxcfgEnab = 0#32) : txEnabled s = false := by
  rcases h with hdma | hmac
  · simp [txEnabled, anySet, hdma]
  · simp [txEnabled, anySet, hmac]

/-- Settles O37: with an enable clear, `Kick()` is its event. -/
theorem disabledKickDoesNothing : Obligations.DisabledKickDoesNothing := by
  intro s h
  refine ⟨setResult (raise s .txDisabled) .none, ?_, onlyLogged_raise s _ _⟩
  rw [← kick_of_disabled (txEnabled_eq_false h)]
  rfl

/-! ### One descriptor (R237 to R241, R246, R247) -/

theorem processTxDesc_txAcc (s : State) (ctl : DWord) (buf : Addr) : (processTxDesc s ctl buf).txAcc =
    if ctl &&& s.cfg.txdEof ≠ 0#64 then [] else accAfter s ctl buf := by
  rw [processTxDesc, endFrame_txAcc, txAcc_appendPayload_eq_accAfter, appendPayload_cfg, beginFrame_cfg]
  simp only [anySet_iff]

theorem processTxDesc_txFirstCtl (s : State) (ctl : DWord) (buf : Addr) :
    (processTxDesc s ctl buf).txFirstCtl =
      if ctl &&& s.cfg.txdEof ≠ 0#64 then 0#64 else firstOf s ctl := by
  rw [processTxDesc, endFrame_txFirstCtl, appendPayload_txFirstCtl, txFirstCtl_beginFrame_eq_firstOf,
    appendPayload_cfg, beginFrame_cfg]
  simp only [anySet_iff]

theorem completionBits_eq (cfg : Cfg) (ctl : DWord) : completionBits cfg ctl =
    if ctl &&& cfg.txdIntme ≠ 0#64 then cfg.statTxDone ||| cfg.statTxIntme else cfg.statTxDone := by
  simp only [completionBits, anySet_iff]

theorem ne_of_not_reported {r : Reg} (hr : r ∉ [Reg.gregStat, .txdmaTxdone]) :
    r ≠ .gregStat ∧ r ≠ .txdmaTxdone := by
  simpa using hr

/-- Settles O40: `ProcessTxDesc` gives the frame in assembly, the rest of the turn the status and the cursor. -/
theorem txDescriptorEffect : Obligations.TxDescriptorEffect := by
  intro ctl buf s
  refine ⟨setResult (txSlot s (txMask s) (txCursor s) ctl buf) .none, rfl, ?_, ?_, ?_, ?_, fun r hr => ?_,
    fun a => ?_, fun a => ?_, ?_, Line.lineSettled_txSlot s _ _ _ _⟩
  · rw [setResult_txAcc, txSlot_txAcc, processTxDesc_txAcc]
  · rw [setResult_txFirstCtl, txSlot_txFirstCtl, processTxDesc_txFirstCtl]
  · rw [getReg_setResult, getReg_txSlot_stat, completionBits_eq]
  · rw [getReg_setResult, getReg_txSlot_txdone, advance, txCursor]
  · obtain ⟨hstat, hdone⟩ := ne_of_not_reported hr
    rw [getReg_setResult, getReg_txSlot _ _ _ _ _ _ hstat hdone]
  · simp
  · simp
  · simp [InputsKept]

/-! ### The loop as a number of turns (R233) -/

/-- The state after the first `n` turns of the loop that starts at the slot `start`. -/
def turns (s : State) (base : Addr) (mask start : Word) : Nat → State
  | 0 => s
  | n + 1 => txFetchSlot (turns s base mask start n) base mask (slotAfter mask start n)

section
variable (s : State) (base : Addr) (mask start : Word)

@[simp] theorem turns_cfg (n : Nat) : (turns s base mask start n).cfg = s.cfg := by
  induction n with
  | zero => rfl
  | succ n ih => rw [turns, txFetchSlot_cfg, ih]

@[simp] theorem turns_mem (n : Nat) : (turns s base mask start n).mem = s.mem := by
  induction n with
  | zero => rfl
  | succ n ih => rw [turns, txFetchSlot_mem, ih]

/-- A loop that reaches the kick cursor after exactly `n` turns makes these. -/
theorem txLoop_eq_turns {kick : Word} {n : Nat}
    (hadvance : ∀ k, advance mask (slotAfter mask start k) = slotAfter mask start (k + 1))
    (hbefore : ∀ k < n, slotAfter mask start k ≠ kick) (hend : slotAfter mask start n = kick)
    (fuel j : Nat) (hj : j ≤ n) (hfuel : n ≤ j + fuel) :
    txLoop base mask kick fuel (slotAfter mask start j) (turns s base mask start j) =
      turns s base mask start n := by
  induction fuel generalizing j with
  | zero =>
    obtain rfl : j = n := by omega
    rfl
  | succ fuel ih =>
    rcases hj.eq_or_lt with rfl | hlt
    · rw [txLoop, if_pos hend]
    · rw [txLoop, if_neg (hbefore j hlt), hadvance]
      exact ih (j + 1) hlt (by omega)

end

/-- The run ends at the kick cursor (R233). -/
theorem slotAfter_kickRun {s : State} (hring : s.cfg.ringszBits = 3) :
    slotAfter (txMask s) (txCursor s) (kickRun s) = getReg s .txdmaKick &&& txMask s :=
  slotAfter_distance (Rings.ringSize_le hring _) _ _

/-- An enabled kick makes as many turns as it covers descriptors, then sets "all transmitted" (R236, R248). -/
theorem kick_eq_turns {s : State} (hring : s.cfg.ringszBits = 3) (henabled : txEnabled s = true) :
    kick s = setStatus (turns s (txBase s) (txMask s) (txCursor s) (kickRun s)) s.cfg.statTxAll true := by
  have hle := Rings.ringSize_le hring (getReg s .txdmaCfg)
  have hrun : kickRun s < ringSize s.cfg (getReg s .txdmaCfg) := by
    rw [kickRun, txMask, Rings.toNat_and_ringMask hle]
    exact Nat.mod_lt _ (Rings.ringSize_pos _ _)
  have hend := slotAfter_kickRun hring
  have hbefore : ∀ k < kickRun s, slotAfter (txMask s) (txCursor s) k ≠ getReg s .txdmaKick &&& txMask s :=
    fun k hk hsame => hk.ne (slotAfter_injective hle (txCursor s) (hk.trans hrun) hrun (hsame.trans hend.symm))
  have hfuel : kickRun s ≤ (txMask s).toNat := by
    rw [txMask, Rings.toNat_ringMask hle]
    omega
  have hloop := txLoop_eq_turns s (txBase s) (txMask s) (txCursor s) (advance_slotAfter hle (txCursor s))
    hbefore hend (txMask s).toNat 0 (Nat.zero_le _) (by rwa [Nat.zero_add])
  rw [turns, txCursor, slotAfter_zero] at hloop
  rw [kick, if_pos henabled]
  exact congrArg (setStatus · s.cfg.statTxAll true) hloop

/-! ### The cursor and the status bits of a run (R246 to R250) -/

/-- The status bits a run of descriptors sets: "descriptor completion" if there is one, the interrupt-request bit
if one asks (R246). -/
def runBits (cfg : Cfg) (ds : List (DWord × Addr)) : Word :=
  (if ds = [] then 0#32 else cfg.statTxDone) |||
    (if ds.any (fun d => anySet d.1 cfg.txdIntme) = true then cfg.statTxIntme else 0#32)

theorem completionBits_eq_or (cfg : Cfg) (ctl : DWord) : completionBits cfg ctl =
    cfg.statTxDone ||| (if anySet ctl cfg.txdIntme = true then cfg.statTxIntme else 0#32) := by
  unfold completionBits
  split_ifs <;> simp

theorem runBits_append_singleton (cfg : Cfg) (ds : List (DWord × Addr)) (d : DWord × Addr) :
    runBits cfg (ds ++ [d]) = runBits cfg ds ||| completionBits cfg d.1 := by
  have hdone : cfg.statTxDone = (if ds = [] then 0#32 else cfg.statTxDone) ||| cfg.statTxDone := by
    split_ifs <;> simp
  have hasks : (if (ds ++ [d]).any (fun d => anySet d.1 cfg.txdIntme) = true then cfg.statTxIntme else 0#32) =
      (if ds.any (fun d => anySet d.1 cfg.txdIntme) = true then cfg.statTxIntme else 0#32) |||
        (if anySet d.1 cfg.txdIntme = true then cfg.statTxIntme else 0#32) := by
    rw [List.any_append, List.any_cons, List.any_nil, Bool.or_false]
    cases ds.any (fun d => anySet d.1 cfg.txdIntme) <;> cases anySet d.1 cfg.txdIntme <;> simp
  rw [runBits, runBits, completionBits_eq_or, hasks, if_neg (by simp)]
  conv_lhs => rw [hdone]
  ac_rfl

section
variable (s : State) (base : Addr) (mask start : Word)

theorem getReg_txFetchSlot_stat (comp : Word) : getReg (txFetchSlot s base mask comp) .gregStat =
    getReg s .gregStat ||| completionBits s.cfg (slotDescriptor s.cfg s.mem base comp).1 := by
  rw [txFetchSlot, getReg_txSlot_stat, getReg_dmaRead, dmaRead_cfg, dmaRead_bytes]
  rfl

theorem getReg_turns_stat (n : Nat) : getReg (turns s base mask start n) .gregStat = getReg s .gregStat |||
    runBits s.cfg ((List.range n).map fun k => slotDescriptor s.cfg s.mem base (slotAfter mask start k)) := by
  induction n with
  | zero => simp [turns, runBits]
  | succ n ih =>
    rw [turns, getReg_txFetchSlot_stat, ih, turns_cfg, turns_mem, List.range_succ, List.map_append,
      List.map_singleton, runBits_append_singleton, BitVec.or_assoc]

theorem getReg_turns_txdone
    (hadvance : ∀ k, advance mask (slotAfter mask start k) = slotAfter mask start (k + 1))
    {n : Nat} (hn : n ≠ 0) : getReg (turns s base mask start n) .txdmaTxdone = slotAfter mask start n := by
  obtain ⟨m, rfl⟩ := Nat.exists_eq_succ_of_ne_zero hn
  rw [turns, getReg_txFetchSlot_txdone, hadvance]

end

theorem kickDescriptors_eq_nil {s : State} : kickDescriptors s = [] ↔ kickRun s = 0 := by
  rw [kickDescriptors, List.map_eq_nil_iff, List.range_eq_nil]

section
variable {s : State} (hring : s.cfg.ringszBits = 3)
include hring

/-- With no descriptor to process, the completion cursor is where the kick cursor is. -/
theorem txCursor_of_empty_run (hrun : kickRun s = 0) : txCursor s = getReg s .txdmaKick &&& txMask s := by
  rw [← slotAfter_kickRun hring, hrun]
  exact (slotAfter_zero _ _).symm

variable (henabled : txEnabled s = true)
include henabled

theorem kick_of_empty_run (hrun : kickRun s = 0) : kick s = setStatus s s.cfg.statTxAll true := by
  rw [kick_eq_turns hring henabled, hrun, turns]

theorem getReg_kick_stat : getReg (kick s) .gregStat =
    getReg s .gregStat ||| runBits s.cfg (kickDescriptors s) ||| s.cfg.statTxAll := by
  rw [kick_eq_turns hring henabled, getReg_setStatus, if_pos rfl, withBits, if_pos rfl, getReg_turns_stat]
  rfl

theorem getReg_kick_txdone (hrun : kickRun s ≠ 0) :
    getReg (kick s) .txdmaTxdone = getReg s .txdmaKick &&& txMask s := by
  rw [kick_eq_turns hring henabled, getReg_setStatus, if_neg (by decide), ← slotAfter_kickRun hring]
  exact getReg_turns_txdone s _ _ _ (advance_slotAfter (Rings.ringSize_le hring _) _) hrun

theorem cursors_meet : getReg (kick s) .txdmaTxdone &&& txMask s = getReg s .txdmaKick &&& txMask s := by
  by_cases hrun : kickRun s = 0
  · rw [kick_of_empty_run hring henabled hrun, getReg_setStatus, if_neg (by decide)]
    exact txCursor_of_empty_run hring hrun
  · rw [getReg_kick_txdone hring henabled hrun, BitVec.and_assoc, BitVec.and_self]

theorem lineSettled_enabled_kick : LineSettled (kick s) := by
  rw [kick_eq_turns hring henabled]
  exact Line.lineSettled_setStatus _ _ _

end

/-- Settles O38: a run of no descriptor is the status update alone; else the last turn sets the cursor. -/
theorem kickRunsUpToTheKickCursor : Obligations.KickRunsUpToTheKickCursor := by
  intro s hring henabled
  refine ⟨setResult (kick s) .none, rfl, cursors_meet hring henabled, fun hrun => ?_, fun hrun => ⟨?_, ?_⟩,
    fun r hr => ?_, fun a => ?_, fun a => ?_, ?_, lineSettled_enabled_kick hring henabled⟩
  · rw [kick_of_empty_run hring henabled hrun]
    exact ⟨getReg_setStatus s _ _ _, onlyRegs_then_setResult (onlyRegs_setStatus (by decide) s _ _) _,
      outputsThenLine_setStatus (List.append_nil _).symm rfl _ _⟩
  · exact getReg_kick_txdone hring henabled hrun
  · rw [getReg_setResult, getReg_kick_stat hring henabled, runBits,
      if_neg (mt kickDescriptors_eq_nil.mp hrun), ← BitVec.or_assoc]
  · obtain ⟨hstat, hdone⟩ := ne_of_not_reported hr
    rw [getReg_setResult, getReg_kick s r hstat hdone]
  · simp
  · simp
  · simp [InputsKept]

end Sys2Proof.TransmitRun
end

section
/-! The classifier (R270 to R276): what each condition of the model says of the address, the registers and the
hash table, and the answers in their order of priority. -/
namespace Sys2Proof.Classifier

open Sys2Proof.Machine Sys2Proof.Laws Sys2Proof.Claims Sys2Proof.TransmitOutputs

/-! ### The conditions (R54, R272 to R276) -/

theorem isBroadcast_iff {a : MacAddr} :
    isBroadcast a = true ↔ a = ⟨0xFF#8, 0xFF#8, 0xFF#8, 0xFF#8, 0xFF#8, 0xFF#8⟩ := by
  cases a
  simp [isBroadcast, macBytes]

theorem isGroup_iff {a : MacAddr} : isGroup a = true ↔ a.b0 &&& 1#8 ≠ 0#8 := by
  rw [isGroup, BitVec.and_one_eq_setWidth_ofBool_getLsbD]
  cases a.b0.getLsbD 0 <;> simp

theorem isGroup_of_isBroadcast {a : MacAddr} (h : isBroadcast a = true) : isGroup a = true := by
  rw [isBroadcast_iff.mp h]
  rfl

theorem stationMatch_iff {s : State} {a : MacAddr} {r0 r1 r2 : Reg} : stationMatch s a r0 r1 r2 = true ↔
    (macWord0 a, macWord1 a, macWord2 a) = (getReg s r0, getReg s r1, getReg s r2) := by
  simp [stationMatch, and_assoc]

theorem shift_and_one_iff {v : Word} {k : Nat} : (v >>> k) &&& 1#32 = 1#32 ↔ v.getLsbD k = true := by
  rw [BitVec.and_one_eq_setWidth_ofBool_getLsbD, BitVec.getLsbD_ushiftRight, Nat.add_zero]
  cases v.getLsbD k <;> simp

theorem hashRegs_getElem? : ∀ n < 16, hashRegs[n]? = some (hashReg n) := by decide

theorem hashKey_lt (crc : Word) : hashKey crc < 256 := by
  rw [hashKey, BitVec.toNat_ushiftRight, Nat.shiftRight_eq_div_pow]
  omega

/-- The key has 8 bits, so it selects one of the 256 entries of the table. -/
theorem hashEntry_iff {s : State} {crc : Word} : hashEntry s (hashKey crc) = true ↔
    ∃ r, hashRegs[hashKey crc / 16]? = some r ∧
      (getReg s r >>> (15 - hashKey crc % 16)) &&& 1#32 = 1#32 := by
  have hkey := hashKey_lt crc
  simp only [hashRegs_getElem? (hashKey crc / 16) (by omega), shift_and_one_iff, Option.some.injEq,
    exists_eq_left']
  rfl

/-! ### The answers (R270) -/

/-- The hash lookup is on and finds its entry (R274, R275). -/
def hashHit (s : State) (crc : Word) : Bool :=
  (!s.cfg.hashGated || anySet (getReg s .macRxcfg) s.cfg.macRxcfgHfe) && hashEntry s (hashKey crc)

theorem hashHit_iff {s : State} {crc : Word} : hashHit s crc = true ↔
    (s.cfg.hashGated = false ∨ getReg s .macRxcfg &&& s.cfg.macRxcfgHfe ≠ 0#32) ∧
      ∃ r, hashRegs[hashKey crc / 16]? = some r ∧
        (getReg s r >>> (15 - hashKey crc % 16)) &&& 1#32 = 1#32 := by
  simp only [hashHit, Bool.and_eq_true, Bool.or_eq_true, Bool.not_eq_true', anySet_iff, hashEntry_iff]

section
variable {s : State} {a : MacAddr} {crc : Word}

theorem classify_of_promiscuous (hprom : anySet (getReg s .macRxcfg) s.cfg.macRxcfgProm = true) :
    classify s a crc = .promiscuous := if_pos hprom

variable (hprom : ¬ anySet (getReg s .macRxcfg) s.cfg.macRxcfgProm = true)
include hprom

theorem classify_of_broadcast (hbroadcast : isBroadcast a = true) : classify s a crc = .broadcast := by
  rw [classify, if_neg hprom, if_pos hbroadcast]

theorem classify_of_group (hbroadcast : ¬ isBroadcast a = true) (hgroup : isGroup a = true) :
    classify s a crc = if anySet (getReg s .macRxcfg) s.cfg.macRxcfgPgrp then .allMulticast
      else if hashHit s crc then .hashMulticast else .noMatch := by
  rw [classify, if_neg hprom, if_neg hbroadcast, if_pos hgroup]
  rfl

/-- An address that is no group address is not the broadcast address either. -/
theorem classify_of_station (hgroup : ¬ isGroup a = true) :
    classify s a crc = if stationMatch s a .macAddr0 .macAddr1 .macAddr2 then .primaryUnicast
      else if stationMatch s a .macAddr3 .macAddr4 .macAddr5 then .altUnicast else .noMatch := by
  rw [classify, if_neg hprom, if_neg (mt isGroup_of_isBroadcast hgroup), if_neg hgroup]

end

/-- Settles O43: one clause for each answer, its conditions read off the registers. -/
theorem classifierPriority : Obligations.ClassifierPriority := by
  intro a crc s
  refine ⟨_, classify s a crc, rfl, rfl, RegisterRows.onlyRegs_setResult s _,
    RegisterRows.silent_setResult s _, ?_⟩
  intro prom broadcast group pgrp lookup key entry halves primary alternate
  have prom_iff : anySet _ _ = true ↔ prom := anySet_iff
  have pgrp_iff : anySet _ _ = true ↔ pgrp := anySet_iff
  have hit_iff : hashHit s crc = true ↔ lookup ∧ entry := hashHit_iff
  have primary_iff : stationMatch s a _ _ _ = true ↔ primary := stationMatch_iff
  have alternate_iff : stationMatch s a _ _ _ = true ↔ alternate := stationMatch_iff
  have byGroup (hprom : ¬ prom) (hbroadcast : ¬ broadcast) (hgroup : group) :=
    classify_of_group (crc := crc) (mt prom_iff.mp hprom) (mt isBroadcast_iff.mp hbroadcast)
      (isGroup_iff.mpr hgroup)
  have byStation (hprom : ¬ prom) (hgroup : ¬ group) :=
    classify_of_station (crc := crc) (mt prom_iff.mp hprom) (mt isGroup_iff.mp hgroup)
  simp only [pgrp_iff, hit_iff, primary_iff, alternate_iff] at byGroup byStation
  refine ⟨fun hprom => classify_of_promiscuous (prom_iff.mpr hprom), fun hprom hbroadcast =>
    classify_of_broadcast (mt prom_iff.mp hprom) (isBroadcast_iff.mpr hbroadcast), ?_, ?_, ?_, ?_, ?_, ?_⟩
  · intro hprom hbroadcast hgroup hpgrp
    rw [byGroup hprom hbroadcast hgroup, if_pos hpgrp]
  · intro hprom hbroadcast hgroup hpgrp hhit
    rw [byGroup hprom hbroadcast hgroup, if_neg hpgrp, if_pos hhit]
  · intro hprom hbroadcast hgroup hpgrp hmiss
    rw [byGroup hprom hbroadcast hgroup, if_neg hpgrp, if_neg hmiss]
  · intro hprom hgroup hprimary
    rw [byStation hprom hgroup, if_pos hprimary]
  · intro hprom hgroup hprimary halternate
    rw [byStation hprom hgroup, if_neg hprimary, if_pos halternate]
  · intro hprom hgroup hprimary halternate
    rw [byStation hprom hgroup, if_neg hprimary, if_neg halternate]

end Sys2Proof.Classifier
end

section
/-! The receive path (R261 to R268, R277 to R285): what `Deliver` does under each of its checks, and the storing
of an accepted frame as a descriptor fetch, a payload write and a write-back of the slot. -/
namespace Sys2Proof.ReceivePath

open Sys2Proof.Machine Sys2Proof.Laws Sys2Proof.Claims Sys2Proof.TransmitOutputs Sys2Proof.BusPlaces

/-! ### Backpressure (R260, R261) -/

theorem rxEnabled_iff {s : State} : rxEnabled s = true ↔
    getReg s .macRxcfg &&& s.cfg.macRxcfgEnab ≠ 0#32 ∧ getReg s .rxdmaCfg &&& s.cfg.dmacfgEnable ≠ 0#32 := by
  rw [rxEnabled, Bool.and_eq_true, anySet_iff, anySet_iff]

theorem rxFull_iff {s : State} : rxFull s = true ↔ getReg s .rxdmaKick &&& rxMask s =
    ((getReg s .rxdmaDone &&& rxMask s) + 1#32) &&& rxMask s := by
  rw [rxFull, ringFull, beq_iff_eq, advance]

theorem canAccept_iff {s : State} : canAccept s = true ↔ rxEnabled s = true ∧ ¬ rxFull s = true := by
  simp [canAccept]

/-- Settles O42: the two enables and the ring, each read off its registers. -/
theorem canAcceptAnswersBackpressure : Obligations.CanAcceptAnswersBackpressure := by
  refine fun s => ⟨_, rfl, RegisterRows.onlyRegs_setResult s _, RegisterRows.silent_setResult s _, ?_⟩
  refine congrArg Result.flag (Bool.eq_iff_iff.mpr ?_)
  rw [decide_eq_true_iff, canAccept_iff, rxEnabled_iff, rxFull_iff, and_assoc]

/-! ### Padding (R267) -/

theorem length_padFrame (f : List Byte) : (padFrame f).length = max f.length 60 := by
  have hfloor : padFloor = 60 := rfl
  unfold padFrame
  split
  · rw [List.length_append, List.length_replicate]
    omega
  · omega

theorem padFrame_ne_nil (f : List Byte) : padFrame f ≠ [] := by
  rw [← List.length_pos_iff, length_padFrame]
  omega

theorem padFrame_getElem?_frame {f : List Byte} {k : Nat} (hk : k < f.length) : (padFrame f)[k]? = f[k]? := by
  unfold padFrame
  split
  · exact List.getElem?_append_left hk
  · rfl

theorem padFrame_getElem?_padding {f : List Byte} {k : Nat} (hf : f.length ≤ k) (hk : k < 60) :
    (padFrame f)[k]? = some 0#8 := by
  have hfloor : padFloor = 60 := rfl
  rw [padFrame, if_pos (by omega), List.getElem?_append_right hf, List.getElem?_replicate, if_pos (by omega)]

/-- Settles O46. -/
theorem shortFramesArePadded : Obligations.ShortFramesArePadded :=
  fun f => ⟨length_padFrame f, fun _ => padFrame_getElem?_frame, fun _ => padFrame_getElem?_padding⟩

/-! ### The checks of `Deliver` (R262 to R266, R277, R278) -/

theorem sizeRejected_iff {s : State} {len : Nat} :
    sizeRejected s len = true ↔ len < s.cfg.rxMinLen ∨ maxFrame s < len + s.cfg.trailer := by
  simp [sizeRejected]

section
variable {s : State} {f : List Byte}

theorem deliver_of_disabled (henab : rxEnabled s = false) : deliver s f = (f.length, raise s .rxDisabled) := by
  simp [deliver, henab]

variable (henab : rxEnabled s = true)
include henab

theorem deliver_of_badSize (hsize : sizeRejected s f.length = true) :
    deliver s f = (f.length, raise s (.rxBadSize f.length)) := by
  rw [deliver, if_pos henab, if_pos hsize]

variable (hsize : ¬ sizeRejected s f.length = true)
include hsize

theorem deliver_of_noMatch (hmatch : matchOf s f = .noMatch) :
    deliver s f = (f.length, raise s .rxUnmatched) := by
  rw [deliver, if_pos henab, if_neg hsize]
  exact if_pos hmatch

variable (hmatch : matchOf s f ≠ .noMatch)
include hmatch

theorem deliver_of_match : deliver s f = if rxFull s then (0, raise s .rxRingFull)
    else (f.length, rxStore s (padFrame f) (matchOf s f)) := by
  rw [deliver, if_pos henab, if_neg hsize]
  exact if_neg hmatch

end

theorem exec_deliver_of_eq {s t : State} {f : List Byte} {n : Nat} (h : deliver s f = (n, t)) :
    exec (.deliver f) s = .next (setResult t (.count n)) := by
  have hexec : exec (.deliver f) s = returning (deliver s f).2 (.count (deliver s f).1) := rfl
  rw [hexec, h]
  rfl

/-- A `Deliver` that ends at a check returns its count and raises its event. -/
theorem deliver_onlyLogged {s : State} {f : List Byte} {n : Nat} {x : LogRecord}
    (h : deliver s f = (n, raise s x)) :
    ∃ t, exec (.deliver f) s = .next t ∧ t.result = .count n ∧ OnlyLogged x s t :=
  ⟨_, exec_deliver_of_eq h, rfl, onlyLogged_raise s x _⟩

/-- Settles O44: each check in its order. -/
theorem droppedFramesHaveNoEffect : Obligations.DroppedFramesHaveNoEffect := fun _ _ =>
  ⟨fun henab => deliver_onlyLogged (deliver_of_disabled henab),
    fun henab hbad => deliver_onlyLogged (deliver_of_badSize henab (sizeRejected_iff.mpr hbad)),
    fun henab hgood hmatch => deliver_onlyLogged
      (deliver_of_noMatch henab (mt sizeRejected_iff.mp hgood) hmatch)⟩

/-- A frame that fails a check before that of the ring is consumed, and one event is raised. -/
theorem deliver_of_dropped {s : State} {f : List Byte} (h : rxEnabled s = false ∨
    sizeRejected s f.length = true ∨ matchOf s f = .noMatch) : ∃ x, deliver s f = (f.length, raise s x) := by
  by_cases henab : rxEnabled s = true
  · by_cases hsize : sizeRejected s f.length = true
    · exact ⟨_, deliver_of_badSize henab hsize⟩
    · exact ⟨_, deliver_of_noMatch henab hsize (by simpa [henab, hsize] using h)⟩
  · exact ⟨_, deliver_of_disabled (by simpa using henab)⟩

/-- Settles O45: the ring is asked last, so only a frame that passed the other checks sees it full. -/
theorem fullRingRefusesTheFrame : Obligations.FullRingRefusesTheFrame := by
  refine fun f s hfull => ⟨fun ⟨henab, hmin, hmax, hmatch⟩ => ?_, fun hdropped => ?_⟩
  · refine deliver_onlyLogged ((deliver_of_match henab (mt sizeRejected_iff.mp ?_) hmatch).trans (if_pos hfull))
    omega
  · rw [← or_assoc (a := f.length < _), ← sizeRejected_iff] at hdropped
    obtain ⟨x, hx⟩ := deliver_of_dropped hdropped
    obtain ⟨t, ht, hcount, hlogged, -⟩ := deliver_onlyLogged hx
    exact ⟨t, ht, hcount, hlogged⟩

end Sys2Proof.ReceivePath
end

section
/-! The storing of an accepted frame (R279 to R285): the descriptor is fetched, the payload written to the buffer
it gives, the slot written back. -/
namespace Sys2Proof.StoredFrame

open Sys2Proof.Machine Sys2Proof.Laws Sys2Proof.Claims Sys2Proof.TransmitOutputs
  Sys2Proof.ReceivePath

/-! ### Reading memory back (R13) -/

theorem readBytes_add (m : Memory) (a : Addr) (n k : Nat) :
    readBytes m a (n + k) = readBytes m a n ++ readBytes m (a + BitVec.ofNat 64 n) k := by
  induction n generalizing a with
  | zero => simp [readBytes]
  | succ n ih =>
    have hnext : a + BitVec.ofNat 64 (n + 1) = a + 1#64 + BitVec.ofNat 64 n := by
      rw [BitVec.ofNat_add, BitVec.add_comm (BitVec.ofNat 64 n), BitVec.add_assoc]
    rw [Nat.succ_add, readBytes, readBytes, ih, hnext, List.cons_append]

/-- The upper half of a descriptor is its buffer word. -/
theorem descWord1_readBytes (o : ByteOrder) (m : Memory) (a : Addr) :
    descWord1 o (readBytes m a 16) = wordOfBytes o (readBytes m (a + 8#64) 8) := by
  rw [descWord1, readBytes_add m a 8 8, List.drop_left' (length_readBytes m a 8),
    List.take_of_length_le (length_readBytes _ _ 8).le]

theorem bytesOfWord_descWord1 (o : ByteOrder) (m : Memory) (a : Addr) :
    bytesOfWord o (descWord1 o (readBytes m a 16)) = readBytes m (a + 8#64) 8 := by
  rw [descWord1_readBytes, bytesOfWord_wordOfBytes o _ (length_readBytes _ _ 8)]

/-- A slot that holds a descriptor with the buffer word as fetched has its upper half as before. -/
theorem readBytes_upper_of_slot {o : ByteOrder} {m m' : Memory} {a : Addr} {status : DWord}
    (h : readBytes m' a 16 = descBytesOf o status (descWord1 o (readBytes m a 16))) :
    readBytes m' (a + 8#64) 8 = readBytes m (a + 8#64) 8 := by
  rw [← bytesOfWord_descWord1 o m' a, h, descWord1_descBytesOf, bytesOfWord_descWord1]

/-! ### The frame (R265, R267) -/

/-- A frame that passed the size check is far shorter than the address space. -/
theorem length_padFrame_le {s : State} {f : List Byte} (h : f.length + s.cfg.trailer ≤ maxFrame s) :
    (padFrame f).length ≤ 2 ^ 64 := by
  have hmax : maxFrame s < 2 ^ 32 := BitVec.isLt _
  rw [length_padFrame]
  omega

/-! ### The parts of storing a frame (R279 to R284) -/

/-- The buffer word of the slot the done cursor selects (R279, R280). -/
def fetchedWord (s : State) : DWord := descWord1 s.cfg.descOrder (readBytes s.mem (rxSlotAddr s) 16)

/-- The descriptor fetched and the frame written to its buffer, the slot not yet written back (R279 to R281). -/
def payloadWritten (s : State) (g : List Byte) : State :=
  dmaWrite (dmaRead s (rxSlotAddr s) 16).2 (postedAddr s (fetchedWord s)) g

theorem rxStore_eq_rxWriteBack (s : State) (g : List Byte) (m : AddrMatch) :
    rxStore s g m = rxWriteBack (payloadWritten s g) (frameStatus s g m) (fetchedWord s) := rfl

section
variable (s : State) (g : List Byte)

@[simp] theorem payloadWritten_cfg : (payloadWritten s g).cfg = s.cfg := by simp [payloadWritten]

@[simp] theorem getReg_payloadWritten (r : Reg) : getReg (payloadWritten s g) r = getReg s r := by
  simp [payloadWritten]

@[simp] theorem payloadWritten_mem : (payloadWritten s g).mem =
    writeBytes s.mem (postedAddr s (fetchedWord s)) g := by simp [payloadWritten]

@[simp] theorem rxMask_payloadWritten : rxMask (payloadWritten s g) = rxMask s := by simp [rxMask]

@[simp] theorem rxSlotAddr_payloadWritten : rxSlotAddr (payloadWritten s g) = rxSlotAddr s := by
  simp [rxSlotAddr, rxBase, rxCursor]

theorem payloadWritten_trace (hg : g ≠ []) : (payloadWritten s g).trace = s.trace ++
    [.dmaRead (rxSlotAddr s) 16, .dmaWrite (postedAddr s (fetchedWord s)) g] := by
  rw [payloadWritten, dmaWrite_trace, if_neg hg, dmaRead_trace, if_neg (by decide), List.append_assoc]
  rfl

theorem payloadWritten_irq : (payloadWritten s g).irq = s.irq := by simp [payloadWritten]

/-- The outputs so far, then a write-back: it outputs its DMA write and the change of the line (R283, R284). -/
theorem outputsThenLine_rxWriteBack {s u : State} {evs : List Event} (htrace : u.trace = s.trace ++ evs)
    (hirq : u.irq = s.irq) (status buf : DWord) :
    OutputsThenLine (evs ++ [.dmaWrite (rxSlotAddr u) (descBytesOf u.cfg.descOrder status buf)]) s
      (rxWriteBack u status buf) := by
  have hdesc : descBytesOf u.cfg.descOrder status buf ≠ [] := by
    rw [← List.length_pos_iff, length_descBytesOf]
    decide
  refine outputsThenLine_setStatus ?_ ?_ _ true
  · rw [setReg_trace, dmaWrite_trace, if_neg hdesc, htrace, List.append_assoc]
  · rw [setReg_irq, dmaWrite_irq, hirq]

theorem outputsThenLine_rxStore {g : List Byte} (hg : g ≠ []) (m : AddrMatch) :
    OutputsThenLine [.dmaRead (rxSlotAddr s) 16, .dmaWrite (postedAddr s (fetchedWord s)) g,
      .dmaWrite (rxSlotAddr s) (descBytesOf s.cfg.descOrder (frameStatus s g m) (fetchedWord s))]
      s (rxStore s g m) := by
  have h := outputsThenLine_rxWriteBack (payloadWritten_trace s g hg) (payloadWritten_irq s g)
    (frameStatus s g m) (fetchedWord s)
  rwa [rxSlotAddr_payloadWritten, payloadWritten_cfg] at h

end

/-! ### The stored frame -/

/-- Settles O47: the write-back of the slot (O50), run where the payload is already in memory. -/
theorem storedFrameIsInMemory : Obligations.StoredFrameIsInMemory := by
  intro f s ⟨henab, hmin, hmax, hmatch, hroom⟩
  have hsize : ¬ sizeRejected s f.length = true := mt sizeRejected_iff.mp (by omega)
  have hdeliver := (deliver_of_match henab hsize hmatch).trans (if_neg (by simp [hroom]))
  refine ⟨_, exec_deliver_of_eq hdeliver, rfl, ?_⟩
  intro g slot buf addr status
  have hlen : g.length ≤ 2 ^ 64 := length_padFrame_le hmax
  obtain ⟨t, ht, hslot, hrest, hdone, hstat, -⟩ :=
    ReceiveDescriptor.writeBackCompletesTheSlot status buf (payloadWritten s g)
  cases ht
  simp only [payloadWritten_cfg, getReg_payloadWritten, rxMask_payloadWritten, rxSlotAddr_payloadWritten,
    payloadWritten_mem] at hslot hrest hdone hstat
  refine ⟨hslot, readBytes_upper_of_slot hslot, fun k hk hout => ?_, fun x hout haddr => ?_, hdone, hstat,
    fun r hr => ?_, getWord_rxStore s g _, ⟨rxStore_txAcc s g _, rxStore_txFirstCtl s g _⟩,
    ⟨rxStore_cfg s g _, rxStore_linkUp s g _, rxStore_requests s g _⟩, Line.lineSettled_setStatus _ _ _, ?_⟩
  · exact (hrest _ hout).trans (readByte_writeBytes _ _ _ k hk hlen)
  · exact (hrest x hout).trans (readByte_writeBytes_of_ne _ _ _ x haddr)
  · obtain ⟨hstatus, hcursor⟩ : r ≠ .gregStat ∧ r ≠ .rxdmaDone := by simpa using hr
    exact getReg_rxStore s g _ r hstatus hcursor
  · exact outputsThenLine_rxStore s (padFrame_ne_nil f) _

end Sys2Proof.StoredFrame
end

section
/-! The outputs so far and the last result (R14, R23, R301): they are no input of any operation. Stated as a
commutation: putting a history before the outputs of a state and then running an operation is running the
operation and then putting that history before the outputs it leaves. -/
namespace Sys2Proof.History

open Sys2Proof.Machine Sys2Proof.Laws Sys2Proof.Rows

/-- The state with `past` before its outputs and `last` as its last result. -/
def withHistory (past : List Event) (last : Result) (s : State) : State :=
  { s with trace := past ++ s.trace, result := last }

/-- Any outputs and any result are a history put on the state that has output nothing. -/
theorem withHistory_noOutputs (past : List Event) (last : Result) (s : State) :
    withHistory past last { s with trace := [] } = { s with trace := past, result := last } := by
  rw [withHistory, List.append_nil]

variable (past : List Event) (last : Result) (s : State)

theorem ite_withHistory (c : Prop) [Decidable c] (t : State) :
    (if c then withHistory past last s else withHistory past last t) =
      withHistory past last (if c then s else t) := (apply_ite _ c s t).symm

/-! ### What an operation reads -/

@[simp] theorem withHistory_cfg : (withHistory past last s).cfg = s.cfg := rfl
@[simp] theorem withHistory_txAcc : (withHistory past last s).txAcc = s.txAcc := rfl
@[simp] theorem withHistory_txFirstCtl : (withHistory past last s).txFirstCtl = s.txFirstCtl := rfl
@[simp] theorem withHistory_irq : (withHistory past last s).irq = s.irq := rfl
@[simp] theorem withHistory_mem : (withHistory past last s).mem = s.mem := rfl
@[simp] theorem getReg_withHistory (r : Reg) : getReg (withHistory past last s) r = getReg s r := rfl
@[simp] theorem txMask_withHistory : txMask (withHistory past last s) = txMask s := rfl
@[simp] theorem txBase_withHistory : txBase (withHistory past last s) = txBase s := rfl
@[simp] theorem txCursor_withHistory : txCursor (withHistory past last s) = txCursor s := rfl
@[simp] theorem txEnabled_withHistory : txEnabled (withHistory past last s) = txEnabled s := rfl
@[simp] theorem copyLength_withHistory (ctl : DWord) :
    copyLength (withHistory past last s) ctl = copyLength s ctl := rfl
@[simp] theorem rxMask_withHistory : rxMask (withHistory past last s) = rxMask s := rfl
@[simp] theorem rxCursor_withHistory : rxCursor (withHistory past last s) = rxCursor s := rfl
@[simp] theorem rxEnabled_withHistory : rxEnabled (withHistory past last s) = rxEnabled s := rfl
@[simp] theorem rxFull_withHistory : rxFull (withHistory past last s) = rxFull s := rfl
@[simp] theorem rxSlotAddr_withHistory : rxSlotAddr (withHistory past last s) = rxSlotAddr s := rfl
@[simp] theorem postedAddr_withHistory (buf : DWord) :
    postedAddr (withHistory past last s) buf = postedAddr s buf := rfl
@[simp] theorem rxCompletionBits_withHistory :
    rxCompletionBits (withHistory past last s) = rxCompletionBits s := rfl
@[simp] theorem sizeRejected_withHistory (len : Nat) :
    sizeRejected (withHistory past last s) len = sizeRejected s len := rfl
@[simp] theorem classify_withHistory (a : MacAddr) (crc : Word) :
    classify (withHistory past last s) a crc = classify s a crc := rfl
@[simp] theorem frameStatus_withHistory (g : List Byte) (m : AddrMatch) :
    frameStatus (withHistory past last s) g m = frameStatus s g m := rfl

/-! ### Updates of one piece of state, outputs, DMA -/

@[simp] theorem setReg_withHistory (r : Reg) (v : Word) :
    setReg (withHistory past last s) r v = withHistory past last (setReg s r v) := rfl
@[simp] theorem setTxAcc_withHistory (acc : List Byte) :
    setTxAcc (withHistory past last s) acc = withHistory past last (setTxAcc s acc) := rfl
@[simp] theorem setTxFirst_withHistory (ctl : DWord) :
    setTxFirst (withHistory past last s) ctl = withHistory past last (setTxFirst s ctl) := rfl
@[simp] theorem setIrq_withHistory (b : Bool) :
    setIrq (withHistory past last s) b = withHistory past last (setIrq s b) := rfl
@[simp] theorem setMem_withHistory (m : Memory) :
    setMem (withHistory past last s) m = withHistory past last (setMem s m) := rfl

/-- An output goes after the history and the outputs the state already has. -/
@[simp] theorem emit_withHistory (e : Event) :
    emit (withHistory past last s) e = withHistory past last (emit s e) := by
  simp [emit, withHistory]

@[simp] theorem raise_withHistory (x : LogRecord) :
    raise (withHistory past last s) x = withHistory past last (raise s x) := emit_withHistory _ _ _ _

@[simp] theorem driveIrq_withHistory (b : Bool) :
    driveIrq (withHistory past last s) b = withHistory past last (driveIrq s b) := by
  simp [driveIrq, ite_withHistory]

@[simp] theorem dmaRead_withHistory (a : Addr) (n : Nat) : dmaRead (withHistory past last s) a n =
    ((dmaRead s a n).1, withHistory past last (dmaRead s a n).2) := by
  simp [dmaRead, ite_withHistory]

@[simp] theorem dmaWrite_withHistory (a : Addr) (v : List Byte) :
    dmaWrite (withHistory past last s) a v = withHistory past last (dmaWrite s a v) := by
  simp [dmaWrite, ite_withHistory]

/-! ### The interrupt aggregator (R191 to R200) -/

@[simp] theorem evaluate_withHistory :
    evaluate (withHistory past last s) = withHistory past last (evaluate s) := driveIrq_withHistory _ _ _ _

@[simp] theorem setStatus_withHistory (bits : Word) (on : Bool) :
    setStatus (withHistory past last s) bits on = withHistory past last (setStatus s bits on) := by
  simp [setStatus]

@[simp] theorem cascade_withHistory :
    cascade (withHistory past last s) = withHistory past last (cascade s) := by
  simp only [cascade, setStatus_withHistory, withHistory_cfg, getReg_withHistory]

@[simp] theorem acknowledge_withHistory (v : Word) :
    acknowledge (withHistory past last s) v = withHistory past last (acknowledge s v) := by
  simp [acknowledge]

theorem clearLatched_withHistory :
    clearLatched (withHistory past last s) = withHistory past last (clearLatched s) := by
  simp [clearLatched]

theorem clearSubStatus_withHistory (r : Reg) (keep aggregate : Word) :
    clearSubStatus (withHistory past last s) r keep aggregate =
      withHistory past last (clearSubStatus s r keep aggregate) := by
  simp [clearSubStatus]

/-! ### The resets (R154, R341 to R343) -/

@[simp] theorem resetRx_withHistory :
    resetRx (withHistory past last s) = withHistory past last (resetRx s) := rfl

@[simp] theorem resetTx_withHistory :
    resetTx (withHistory past last s) = withHistory past last (resetTx s) := rfl

@[simp] theorem loadStationAddress_withHistory :
    loadStationAddress (withHistory past last s) = withHistory past last (loadStationAddress s) := rfl

theorem resetAll_withHistory (b : Bool) :
    resetAll (withHistory past last s) b = withHistory past last (resetAll s b) := by
  cases b <;> simp [resetAll]

theorem softReset_withHistory (v : Word) :
    softReset (withHistory past last s) v = withHistory past last (softReset s v) := by
  unfold softReset
  rw [withHistory_cfg]
  cases swrstKind s.cfg v with
  | all => exact resetAll_withHistory _ _ _ _
  | rx | tx | none => rfl

/-! ### Management frames (R211) -/

@[simp] theorem miiOp_withHistory (v : Word) : miiOp (withHistory past last s) v =
    ((miiOp s v).1, withHistory past last (miiOp s v).2) := by
  rw [ManagementFrames.miiOp_eq_answerOf, ManagementFrames.miiOp_eq_answerOf, withHistory_cfg]
  cases mifKind s.cfg v with
  | write | read => rfl
  | badOp | badTag => exact Prod.ext rfl (raise_withHistory _ _ _ _)

/-! ### The transmit engine (R236 to R247) -/

@[simp] theorem beginFrame_withHistory (ctl : DWord) :
    beginFrame (withHistory past last s) ctl = withHistory past last (beginFrame s ctl) := by
  simp [beginFrame, ite_withHistory]

@[simp] theorem appendPayload_withHistory (ctl : DWord) (buf : Addr) :
    appendPayload (withHistory past last s) ctl buf =
      withHistory past last (appendPayload s ctl buf) := by
  simp only [appendPayload, withHistory_cfg, withHistory_txAcc, copyLength_withHistory,
    raise_withHistory, ite_withHistory, dmaRead_withHistory, setTxAcc_withHistory]

theorem txChecksum_withHistory :
    txChecksum (withHistory past last s) = withHistory past last (txChecksum s) := by
  simp [txChecksum, ite_withHistory]

theorem handOn_withHistory (frame : List Byte) :
    handOn (withHistory past last s) frame = withHistory past last (handOn s frame) := by
  simp [handOn, ite_withHistory]

@[simp] theorem endFrame_withHistory (ctl : DWord) :
    endFrame (withHistory past last s) ctl = withHistory past last (endFrame s ctl) := by
  simp only [endFrame, withHistory_cfg, withHistory_txFirstCtl, txChecksum_withHistory, ite_withHistory,
    withHistory_txAcc, handOn_withHistory, setTxAcc_withHistory, setTxFirst_withHistory]

@[simp] theorem processTxDesc_withHistory (ctl : DWord) (buf : Addr) :
    processTxDesc (withHistory past last s) ctl buf =
      withHistory past last (processTxDesc s ctl buf) := by
  simp [processTxDesc]

@[simp] theorem txSlot_withHistory (mask comp : Word) (ctl : DWord) (buf : Addr) :
    txSlot (withHistory past last s) mask comp ctl buf =
      withHistory past last (txSlot s mask comp ctl buf) := by
  simp [txSlot]

@[simp] theorem txFetchSlot_withHistory (base : Addr) (mask comp : Word) :
    txFetchSlot (withHistory past last s) base mask comp =
      withHistory past last (txFetchSlot s base mask comp) := by
  simp [txFetchSlot]

/-- The descriptor of each turn is read from memory, the slots from the cursors. -/
@[simp] theorem txLoop_withHistory (base : Addr) (mask kick : Word) (fuel : Nat) (comp : Word) :
    txLoop base mask kick fuel comp (withHistory past last s) =
      withHistory past last (txLoop base mask kick fuel comp s) := by
  induction fuel generalizing comp s with
  | zero => rfl
  | succ fuel ih => rw [txLoop, txLoop, txFetchSlot_withHistory, ih, ite_withHistory]

@[simp] theorem kick_withHistory : kick (withHistory past last s) = withHistory past last (kick s) := by
  simp [kick, ite_withHistory]

/-! ### The receive engine (R262 to R284) -/

@[simp] theorem rxWriteBack_withHistory (status buf : DWord) :
    rxWriteBack (withHistory past last s) status buf =
      withHistory past last (rxWriteBack s status buf) := by
  simp [rxWriteBack]

@[simp] theorem rxStore_withHistory (g : List Byte) (m : AddrMatch) :
    rxStore (withHistory past last s) g m = withHistory past last (rxStore s g m) := by
  simp [rxStore]

theorem deliver_withHistory (f : List Byte) : deliver (withHistory past last s) f =
    ((deliver s f).1, withHistory past last (deliver s f).2) := by
  simp only [deliver, rxEnabled_withHistory, sizeRejected_withHistory, classify_withHistory,
    withHistory_cfg, rxFull_withHistory, raise_withHistory, rxStore_withHistory]
  split_ifs <;> rfl

/-! ### Bus accesses (R140, R141) -/

theorem afterRead_withHistory (r : Reg) :
    afterRead (withHistory past last s) r = withHistory past last (afterRead s r) := by
  simp only [afterRead, withHistory_cfg, clearSubStatus_withHistory, ite_withHistory]

theorem busReadReg_withHistory (r : Reg) : busReadReg (withHistory past last s) r =
    ((busReadReg s r).1, withHistory past last (busReadReg s r).2) := by
  unfold busReadReg
  split
  · exact Prod.ext rfl (clearLatched_withHistory _ _ _)
  · rfl
  · exact Prod.ext rfl (afterRead_withHistory _ _ _ _)

theorem unlessReadOnly_withHistory (r : Reg) {t u : State} (h : u = withHistory past last t) :
    unlessReadOnly (withHistory past last s) r u = withHistory past last (unlessReadOnly s r t) := by
  rw [h]
  exact ite_withHistory _ _ _ _ _

theorem afterStore_withHistory (r : Reg) (v : Word) :
    afterStore (withHistory past last s) r v = withHistory past last (afterStore s r v) := by
  unfold afterStore
  split
  · exact evaluate_withHistory _ _ _
  · exact softReset_withHistory _ _ _ _
  · exact kick_withHistory _ _ _
  · exact cascade_withHistory _ _ _
  · exact cascade_withHistory _ _ _
  · exact cascade_withHistory _ _ _
  · simp
  · rfl

theorem busWriteReg_withHistory (r : Reg) (v : Word) :
    busWriteReg (withHistory past last s) r v = withHistory past last (busWriteReg s r v) := by
  apply unlessReadOnly_withHistory
  split
  · exact acknowledge_withHistory _ _ _ _
  · exact afterStore_withHistory _ _ (setReg s r (maskWrite s.cfg r v)) _ _

/-! ### Every row -/

/-- The outcome with `past` before the outputs of its state; the result of the operation stays. -/
def outcomeWithHistory (past : List Event) :
    Host.Outcome State Fault Refusal → Host.Outcome State Fault Refusal
  | .next t => .next (withHistory past t.result t)
  | .fault f => .fault f
  | .refused r => .refused r

/-- An operation sets the last result itself, so the one before it leaves no mark. -/
theorem returning_withHistory {past : List Event} {last : Result} {t u : State}
    (h : u = withHistory past last t) (res : Result) :
    returning u res = outcomeWithHistory past (returning t res) := by
  rw [h]
  rfl

theorem writing_withHistory (s : State) {past : List Event} {last : Result} (r : Reg) {t u : State}
    (h : u = withHistory past last t) :
    writing (withHistory past last s) r u = outcomeWithHistory past (writing s r t) :=
  returning_withHistory (unlessReadOnly_withHistory past last s r h) _

/-- Every row returns the same result after every history, and leaves the same state but for it. -/
theorem exec_withHistory (i : Instr) :
    exec i (withHistory past last s) = outcomeWithHistory past (exec i s) := by
  cases row i with
  | readReg r => rw [exec_rdInstr, exec_rdInstr, busReadReg_withHistory]; rfl
  | writeReg r v => rw [exec_wrInstr, exec_wrInstr, busWriteReg_withHistory]; rfl
  | swrstAll v => exact writing_withHistory s _ (resetAll_withHistory _ _ (storeSwrst s v) _)
  | swrstRx v | swrstTx v | swrstNone v | mifWrite v | mifRead v | phyreg0Control v | phyreg1Status v
  | phyreg2IdentifierHigh v | phyreg3IdentifierLow v | phyreg4Advertisement v | phyreg5LinkPartner v
  | phyreg24Auxiliary v | phyregOther v => exact writing_withHistory s _ rfl
  | mifBadOp0 v | mifBadOp3 v => exact writing_withHistory s _ (by simp [badOpcode, storeFrame])
  | mifBadTag0 v | mifBadTag2 v | mifBadTag3 v => exact writing_withHistory s _ (by simp [badTag, storeFrame])
  | rdUnmapped off | wrUnmapped off v => exact returning_withHistory (raise_withHistory past last s _) _
  | txd ctl buf =>
    exact returning_withHistory (txSlot_withHistory past last s (txMask s) (txCursor s) ctl buf) _
  | rxdStatus status buf =>
    exact returning_withHistory (rxWriteBack_withHistory past last s status buf) _
  | deliver frame =>
    exact congrArg (fun r => returning r.2 (.count r.1)) (deliver_withHistory past last s frame)
  | kick => exact returning_withHistory (kick_withHistory past last s) _
  | evaluate => exact returning_withHistory (evaluate_withHistory past last s) _
  | cascade => exact returning_withHistory (cascade_withHistory past last s) _
  | ack v => exact returning_withHistory (acknowledge_withHistory past last s v) _
  | setStatus bits on => exact returning_withHistory (setStatus_withHistory past last s bits on) _
  | miiOp v => exact congrArg (fun r => returning r.2 (.word r.1)) (miiOp_withHistory past last s v)
  | busReset | resetAll isBusReset => exact returning_withHistory (resetAll_withHistory past last s _) _
  | rdPlainWord off | wrPlainWord off v | rdWolWord off | wrWolWord off v | rxdPosted status buf
  | canAccept | setLink up | classify dst crc | resetRx | resetTx => rfl

/-- Settles O60: both runs are the run of the state that has output nothing, after two histories. -/
theorem logIsNotArchitectural : Obligations.LogIsNotArchitectural := by
  intro i s log res
  obtain ⟨t, ht⟩ := RuledRows.noInstructionStops i { s with trace := [] }
  have hrun (past : List Event) (last : Result) :
      exec i { s with trace := past, result := last } = .next (withHistory past t.result t) := by
    rw [← withHistory_noOutputs, exec_withHistory, ht]
    rfl
  exact ⟨_, _, t.trace, hrun s.trace s.result, hrun log res, rfl, rfl⟩

end Sys2Proof.History
end

section
/-! The reset procedures and the bus reset as instructions (R341 to R345). What each leaves is said above, for the
software reset; here it is said of the operation itself, from any state. -/
namespace Sys2Proof.ResetOperations

open Sys2Proof.Machine Sys2Proof.Laws Sys2Proof.Claims Sys2Proof.Frames Sys2Proof.SoftwareReset

/-! ### The single-sided resets (R341, R342) -/

theorem rxResetDone_resetRx (s : State) (res : Result) : RxResetDone s (setResult (resetRx s) res) :=
  ⟨rxAtReset_resetRx s, onlyRegs_then_setResult (onlyRegs_resetRx (List.Subset.refl _) s) res,
    resetRx_irq s, resetRx_trace s⟩

theorem txResetDone_resetTx (s : State) : TxResetDone s (resetTx s) :=
  ⟨txAtReset_resetTx s, regsKept_resetTx s, getWord_resetTx s, fun a => by rw [resetTx_mem],
    ⟨resetTx_cfg s, resetTx_linkUp s, resetTx_requests s⟩, resetTx_irq s, resetTx_trace s⟩

/-- Settles O51: each instruction is its procedure, which returns nothing to its caller. -/
theorem singleSidedResets : Obligations.SingleSidedResets :=
  fun s => ⟨⟨_, rfl, rxResetDone_resetRx s _⟩, ⟨_, rfl, txResetDone_resetTx s⟩⟩

/-! ### The full reset (R343) -/

/-- Storing in GREG_SWRST the word it holds changes nothing. -/
theorem storeSwrst_same (s : State) : storeSwrst s (getReg s .gregSwrst) = s := by
  have hregs : s.regs.set Reg.gregSwrst.idx.val (getReg s .gregSwrst) Reg.gregSwrst.idx.isLt = s.regs :=
    Vector.set_getElem_self _
  rw [storeSwrst, setReg, hregs]

/-- `ResetAll(false)` is the reset a software write asks for, of the word GREG_SWRST already holds. -/
theorem softResetAllDone_resetAll (s : State) :
    SoftResetAllDone (getReg s .gregSwrst) s (resetAll s false) := by
  have h := softResetAllDone (getReg s .gregSwrst) s
  rwa [storeSwrst_same] at h

/-- `ResetAll(true)` writes the station address besides (R343). -/
theorem regsKept_resetAll_true (s : State) :
    RegsKept (rxResetRegs ++ txResetRegs ++ [.gregImask, .gregStat, .gregSwrst, .mifCfg,
      .macAddr0, .macAddr1, .macAddr2]) s (resetAll s true) :=
  fun r hr => getReg_resetAll s true r hr

theorem busResetDone_resetAll (s : State) : BusResetDone s (resetAll s true) := by
  obtain ⟨-, -, -, hswrst⟩ := getReg_resetAll_regs s true
  obtain ⟨haddr0, haddr1, haddr2⟩ := getReg_resetAll_station s true
  exact ⟨PowerOn.allAtReset_resetAll s true, hswrst, haddr0, haddr1, haddr2, regsKept_resetAll_true s,
    getWord_resetAll s true, fun a => by rw [resetAll_mem],
    ⟨resetAll_cfg s true, resetAll_linkUp s true, resetAll_requests s true⟩, outputs_resetAll s true⟩

/-- Settles O52: the bus reset is `ResetAll(true)` (R345), so the last two clauses are one. -/
theorem fullReset : Obligations.FullReset :=
  fun s => ⟨⟨_, rfl, softResetAllDone_resetAll s⟩, ⟨_, rfl, busResetDone_resetAll s⟩,
    ⟨_, rfl, busResetDone_resetAll s⟩⟩

end Sys2Proof.ResetOperations
end
